-- ==== Sys2Proof/Word.lean ====
section
/-! DEFINITION. The two word sizes of the core (00_scope R7, R10): bytes and 16-bit
values, both unsigned and both wrapping (40_engine R203). -/

namespace Sys2Proof

/-- An 8-bit register, memory byte or immediate (R7). -/
abbrev Byte := BitVec 8

/-- A 16-bit register pair, SP, PC or address (R7). -/
abbrev Word := BitVec 16

end Sys2Proof
end

