-- ==== Sys2Proof/Machine/Bits.lean ====
section
/-! DEFINITION. Bit-field, concatenation and sign-extension helpers, in the notation of
00_scope R9 and R10, and the little-endian byte order of 20_memory R108. -/

namespace Sys2Proof

/-- `v[15:8]` (R9). -/
def hiByte (v : Word) : Byte := v.extractLsb' 8 8

/-- `v[7:0]` (R9). -/
def loByte (v : Word) : Byte := v.extractLsb' 0 8

/-- The concatenation `{hi, lo}` (R9). -/
def mkWord (hi lo : Byte) : Word := hi ++ lo

/-- `sext_16(v8)`, the two's-complement extension of a displacement byte (R10). -/
def sext16 (v : Byte) : Word := v.signExtend 16

/-- The high-page address `0xFF00 | v` (30_encoding R155). -/
def highPage (v : Byte) : Word := mkWord 0xFF v

/-- Field `x = o[7:6]` of an opcode byte (R152). -/
def fieldX (o : Byte) : Nat := o.toNat / 64

/-- Field `y = o[5:3]` of an opcode byte (R152). -/
def fieldY (o : Byte) : Nat := o.toNat / 8 % 8

/-- Field `z = o[2:0]` of an opcode byte (R152). -/
def fieldZ (o : Byte) : Nat := o.toNat % 8

end Sys2Proof
end

