-- ==== Sys2Proof/Machine/Flags.lean ====
section
/-! DEFINITION. The Flag Engine (41_flag_engine): one pure function per ALU category, from
operands and the current flag byte to the result and the new flag byte. Carries are computed
exactly on natural numbers and only the result is truncated. -/

namespace Sys2Proof.Machine

/-- The flag byte with the four condition bits Z, N, H, C in bits 7 to 4 and zeros below (R44). -/
def flagByte (z n h c : Bool) : Byte :=
  BitVec.ofBool z ++ BitVec.ofBool n ++ BitVec.ofBool h ++ BitVec.ofBool c ++ (0 : BitVec 4)

/-- Z, bit 7 of F (R44). -/
def flagZ (f : Byte) : Bool := f.getLsbD 7

/-- N, bit 6 of F (R44). -/
def flagN (f : Byte) : Bool := f.getLsbD 6

/-- H, bit 5 of F (R44). -/
def flagH (f : Byte) : Bool := f.getLsbD 5

/-- C, bit 4 of F (R44). -/
def flagC (f : Byte) : Bool := f.getLsbD 4

/-- The Zero law for an 8-bit result (R220). -/
def isZero (r : Byte) : Bool := decide (r = 0)

/-- `alu_add8` (R224): H by R221, C by R222. -/
def aluAdd8 (a b : Byte) (cin : Bool) : Byte × Byte :=
  let r := a + b + BitVec.ofNat 8 cin.toNat
  (r, flagByte (isZero r) false
    (decide (a.toNat % 16 + b.toNat % 16 + cin.toNat > 0xF))
    (decide (a.toNat + b.toNat + cin.toNat > 0xFF)))

/-- `alu_sub8` (R225): H by R221, C by R222. -/
def aluSub8 (a b : Byte) (cin : Bool) : Byte × Byte :=
  let r := a - b - BitVec.ofNat 8 cin.toNat
  (r, flagByte (isZero r) true
    (decide (a.toNat % 16 < b.toNat % 16 + cin.toNat))
    (decide (a.toNat < b.toNat + cin.toNat)))

/-- `alu_inc8` (R226): the Carry bit is kept. -/
def aluInc8 (v f : Byte) : Byte × Byte :=
  (v + 1, flagByte (isZero (v + 1)) false (decide (v.toNat % 16 = 0xF)) (flagC f))

/-- `alu_dec8` (R227): the Carry bit is kept. -/
def aluDec8 (v f : Byte) : Byte × Byte :=
  (v - 1, flagByte (isZero (v - 1)) true (decide (v.toNat % 16 = 0)) (flagC f))

/-- `alu_add16_hl` (R228): Z kept, H from bit 11, C from bit 15. -/
def aluAdd16Hl (hl rr : Word) (f : Byte) : Word × Byte :=
  (hl + rr, flagByte (flagZ f) false
    (decide (hl.toNat % 0x1000 + rr.toNat % 0x1000 > 0x0FFF))
    (decide (hl.toNat + rr.toNat > 0xFFFF)))

/-- `alu_add_sp_e8` (R229): H and C of the unsigned addition of SP's low byte and `e`. -/
def aluAddSpE8 (sp : Word) (e : Byte) : Word × Byte :=
  (sp + sext16 e, flagByte false false
    (decide (sp.toNat % 16 + e.toNat % 16 > 0xF))
    (decide (sp.toNat % 0x100 + e.toNat > 0xFF)))

/-- AND of `alu_logic` (R230). -/
def aluAnd (a b : Byte) : Byte × Byte := (a &&& b, flagByte (isZero (a &&& b)) false true false)

/-- XOR of `alu_logic` (R230). -/
def aluXor (a b : Byte) : Byte × Byte := (a ^^^ b, flagByte (isZero (a ^^^ b)) false false false)

/-- OR of `alu_logic` (R230). -/
def aluOr (a b : Byte) : Byte × Byte := (a ||| b, flagByte (isZero (a ||| b)) false false false)

/-- The eight ALU operations as functions of A, the operand and F (R300 to R307): the result the
operation computes and the new flag byte. -/
def alu8 (op : AluOp) (a v f : Byte) : Byte × Byte :=
  match op with
  | .add => aluAdd8 a v false
  | .adc => aluAdd8 a v (flagC f)
  | .sub => aluSub8 a v false
  | .sbc => aluSub8 a v (flagC f)
  | .and => aluAnd a v
  | .xor => aluXor a v
  | .or => aluOr a v
  | .cp => aluSub8 a v false

/-- The result and the carry-out of the rotate and shift table (R232). -/
def shiftResult (op : RotOp) (v : Byte) (c : Bool) : Byte × Bool :=
  match op with
  | .rlc => ((v <<< 1) ||| (v >>> 7), v.getLsbD 7)
  | .rrc => ((v >>> 1) ||| (v <<< 7), v.getLsbD 0)
  | .rl => ((v <<< 1) ||| BitVec.ofNat 8 c.toNat, v.getLsbD 7)
  | .rr => ((v >>> 1) ||| (BitVec.ofNat 8 c.toNat <<< 7), v.getLsbD 0)
  | .sla => (v <<< 1, v.getLsbD 7)
  | .sra => ((v >>> 1) ||| (v &&& 0x80), v.getLsbD 0)
  | .swap => ((v <<< 4) ||| (v >>> 4), false)
  | .srl => (v >>> 1, v.getLsbD 0)

/-- `alu_shift` (R232). -/
def aluShift (op : RotOp) (v f : Byte) : Byte × Byte :=
  let r := (shiftResult op v (flagC f)).1
  (r, flagByte (isZero r) false false (shiftResult op v (flagC f)).2)

/-- `alu_rot_a` (R231): as the shift table, but Z is always reset. -/
def aluRotA (op : RotOp) (a f : Byte) : Byte × Byte :=
  ((shiftResult op a (flagC f)).1, flagByte false false false (shiftResult op a (flagC f)).2)

/-- `alu_bit` (R233): Z is the complement of the tested bit. -/
def aluBit (b : Fin 8) (v f : Byte) : Byte := flagByte (!v.getLsbD b.val) false true (flagC f)

/-- The correction `alu_daa` adds or subtracts (R234). -/
def daaAdjusted (a f : Byte) : Byte × Bool :=
  if flagN f = false then
    let high := flagC f || decide (a.toNat > 0x99)
    let low := flagH f || decide (a.toNat % 16 > 0x09)
    (a + (if high then 0x60 else 0) + (if low then 0x06 else 0), high)
  else
    (a - (if flagC f then 0x60 else 0) - (if flagH f then 0x06 else 0), flagC f)

/-- `alu_daa` (R234). -/
def aluDaa (a f : Byte) : Byte × Byte :=
  let r := (daaAdjusted a f).1
  (r, flagByte (isZero r) (flagN f) false (daaAdjusted a f).2)

/-- `alu_cpl` (R235). -/
def aluCpl (a f : Byte) : Byte × Byte := (~~~a, flagByte (flagZ f) true true (flagC f))

/-- `alu_scf` (R235). -/
def aluScf (f : Byte) : Byte := flagByte (flagZ f) false false true

/-- `alu_ccf` (R235). -/
def aluCcf (f : Byte) : Byte := flagByte (flagZ f) false false (!flagC f)

end Sys2Proof.Machine
end

