-- ==== Sys2Proof/Config.lean ====
section
/-! DEFINITION. The fixed parameters of the hardware (00_scope R7) and the two values the
model itself fixes about reset: what a byte nothing has written reads as, and the cartridge
State.reset holds. -/

namespace Sys2Proof.Config

/-- `bank_size`, the size of one ROM window (R7, R119). -/
def bankSize : Nat := 0x4000

/-- The cartridge RAM bank size, the size of the window 0xA000-0xBFFF (R7, R119). -/
def ramBankSize : Nat := 0x2000

/-- What a byte of a backing store reads as when the store lists nothing for it.
DESIGN CHOICE, unsafe (log 2): the spec makes initial memory and the ROM image parameters. -/
def unlisted : Byte := 0x00

/-- The entry point (R60, R502). -/
def entryPoint : Word := 0x0100

/-- M-cycles of an interrupt dispatch (R462, R521). -/
def dispatchCycles : Nat := 5

/-- M-cycles of an idle halted step (R467, R521). -/
def idleCycles : Nat := 1

/-- The declared ROM bank count of the cartridge State.reset holds.
DESIGN CHOICE, unsafe (log 1): a construction parameter (R8). -/
def resetRomBanks : Nat := 4

/-- The declared cartridge RAM size of the cartridge State.reset holds.
DESIGN CHOICE, unsafe (log 1): a construction parameter (R8). -/
def resetRamSize : Nat := 0x2000

end Sys2Proof.Config
end

