-- ==== Sys2Proof/Machine/State.lean ====
section
/-! DEFINITION. The state of the core as plain data (10_state R58), the fatal errors
(60_exceptions R450), and the state after construction (10_state R67). -/

namespace Sys2Proof.Machine

/-- What an access to the bus was (60_exceptions R454). -/
inductive AccessKind where
  | read | write | fetch
  deriving DecidableEq, Repr

/-- Why construction refuses a cartridge (R451). -/
inductive ConfigReason where
  | unsupportedController | badBankCount | badRamSize | imageLengthMismatch
  deriving DecidableEq, Repr

/-- The three behaviours the spec deliberately refuses (R453). -/
inductive UnimplementedReason where
  | stop | haltBug | dispatchPushToIE
  deriving DecidableEq, Repr

/-- A fatal error record: its type and payload (R450). -/
inductive FatalError where
  /-- Code 1, raised once by construction and by no step (R451). -/
  | configurationError (reason : ConfigReason)
  /-- Code 2, an illegal byte dispatched (R452, 48_system R425). -/
  | illegalOpcodeError (opcode : Byte) (pc : Word)
  /-- Code 3, STOP, the HALT bug, or a dispatch push to IE (R453). -/
  | unimplementedOpcodeError (opcode : Byte) (pc : Word) (reason : UnimplementedReason)
  /-- Code 4, a bus access outside every region, or a write with no legal target (R454). -/
  | unmappedAddressError (address : Word) (kind : AccessKind)
  deriving DecidableEq, Repr

/-- The numeric code of a fatal error (R450). -/
def FatalError.code : FatalError → Nat
  | .configurationError _ => 1
  | .illegalOpcodeError _ _ => 2
  | .unimplementedOpcodeError _ _ _ => 3
  | .unmappedAddressError _ _ => 4

/-- Why a step stops. -/
inductive Fault where
  /-- The step failed with this fatal error and committed nothing (R199, R455). Raised by the
  bus operations, by STOP, HALT, the illegal bytes and the interrupt dispatch.
  Safe: it is the spec's own outcome of the step, and the model goes no further. DESIGN CHOICE
  (log 5): an outcome, where a next state with ERROR set would do as well. -/
  | fatal (e : FatalError)
  /-- A step was asked of a core whose ERROR is already set: "no further step is defined"
  (R54, R455). Raised by `step` before anything else. Safe: a stuck state. DEDUCED (log 6). -/
  | terminal (e : FatalError)
  deriving DecidableEq, Repr

/-- Why an instruction is given no meaning. -/
inductive Refusal where
  /-- Raised only by an arm of `exec` whose instruction has no meaning yet; no arm is so.
  Safe: the model stops. -/
  | notModelled (mnemonic : String)
  deriving DecidableEq, Repr

/-- The registers of an MBC1 controller (10_state R55). -/
structure Mbc1 where
  /-- RAM_EN, cartridge RAM enabled (R100). -/
  ramEn : Bool
  /-- BANK1, the 5-bit ROM bank selection register, 1 to 31 (R101). -/
  bank1 : BitVec 5
  /-- BANK2, the 2-bit RAM bank index (R102). -/
  bank2 : BitVec 2
  /-- MODE, 1 bit: `true` lets BANK2 select the RAM bank (R103). -/
  mode : Bool
  deriving DecidableEq, Repr

/-- The bank controller: its tag, fixed at construction, and its mutable registers; RomOnly has
none (R55, 20_memory R97). -/
inductive BankController where
  | romOnly
  | mbc1 (regs : Mbc1)
  deriving DecidableEq, Repr

/-- One write of the host between two steps (20_memory R114): only I/O bytes and object
attribute memory can be named. DESIGN CHOICE (log 14). -/
inductive HostWrite where
  /-- A write of the I/O byte 0xFF00 + `offset`. -/
  | io (offset : Fin 0x80) (value : Byte)
  /-- A write of the object attribute byte 0xFE00 + `offset`. -/
  | oam (offset : Fin 0xA0) (value : Byte)
  deriving DecidableEq, Repr

/-- A backing store: address and byte pairs, addresses rising, no byte equal to what an
unlisted address reads as (see `Memory.wf`). -/
abbrev Memory := List Host.Cell

/-- The complete core state (R58), the construction parameters it was built from (R8), and two
fields of the model's own: the host's writes still to come and the last step's cycle count. -/
structure State where
  /-- Pair AF; A high, F low; read and written only through `get8`, `get16`, `set8`, `set16`,
  which force bits 3 to 0 to zero (R41, R44, R45). -/
  af : Word
  /-- Pair BC (R41). -/
  bc : Word
  /-- Pair DE (R41). -/
  de : Word
  /-- Pair HL (R41). -/
  hl : Word
  /-- The stack pointer (R48). -/
  sp : Word
  /-- The program counter: the address of the latched opcode (R49). -/
  pc : Word
  /-- The latched opcode (R50). -/
  ir : Byte
  /-- The interrupt master enable (R51). -/
  ime : Bool
  /-- An EI whose effect on IME has not yet taken place (R52). -/
  eiPending : Bool
  /-- Set by HALT, cleared when an interrupt is pending (R53). -/
  halted : Bool
  /-- The fatal error record, if a step has failed (R54). -/
  error : Option FatalError
  /-- The bank controller (R55). -/
  bank : BankController
  /-- Video RAM, work RAM, object attribute memory, I/O bytes, high RAM and IE, keyed by
  address (R56). -/
  mem : Memory
  /-- Cartridge RAM, keyed by its own byte index (R56, R105). -/
  cartRam : Memory
  /-- The ROM image, keyed by image offset; no step changes it (R56, R65). DESIGN CHOICE (log 12). -/
  rom : Memory
  /-- The declared ROM bank count, a construction parameter (R8). -/
  romBankCount : Nat
  /-- The declared cartridge RAM size in bytes, a construction parameter (R8). -/
  ramSize : Nat
  /-- The host's writes still to come: the head is what it writes before the next step (R114).
  The model's own field, the free input of the step. DESIGN CHOICE (log 3). -/
  hostInput : List (List HostWrite)
  /-- The elapsed M-cycle count the last step returned (R190, R521). The model's own
  field. DESIGN CHOICE (log 4). -/
  cycles : Nat
  deriving DecidableEq, Repr

/-- The MBC1 registers at construction (R64). -/
def Mbc1.powerOn : Mbc1 := { ramEn := false, bank1 := 1, bank2 := 0, mode := false }

/-- The state right after construction (R59 to R64, R67) with the cartridge of log 1 (MBC1,
4 banks, 0x2000 bytes of RAM, every image byte zero) and initial memory all zero (log 2).
IR is the byte at 0x0100 (R61), zero in that image. -/
def State.reset : State :=
  { af := 0x01B0, bc := 0x0013, de := 0x00D8, hl := 0x014D, sp := 0xFFFE,
    pc := Config.entryPoint, ir := Config.unlisted,
    ime := false, eiPending := false, halted := false, error := none,
    bank := .mbc1 Mbc1.powerOn, mem := [], cartRam := [], rom := [],
    romBankCount := Config.resetRomBanks, ramSize := Config.resetRamSize,
    hostInput := [], cycles := 0 }

end Sys2Proof.Machine
end

