-- ==== Sys2Proof/Machine/Memory.lean ====
section
/-! DEFINITION. Operations on one backing store, kept as a sorted list of address and byte
pairs that lists no unlisted byte. The laws of read over write hold of every list; `Memory.wf`
is the canonical form every operation keeps. -/

namespace Sys2Proof.Machine

/-- The byte at `a`: the first entry for it, or the unlisted byte. -/
def Memory.read : Memory → Nat → Byte
  | [], _ => Config.unlisted
  | (k, v) :: m, a => if k = a then v else Memory.read m a

/-- `m` with every entry for `a` removed. -/
def Memory.erase : Memory → Nat → Memory
  | [], _ => []
  | (k, v) :: m, a => if k = a then Memory.erase m a else (k, v) :: Memory.erase m a

/-- `m` with an entry for `a` put before the first larger address. -/
def Memory.insert : Memory → Nat → Byte → Memory
  | [], a, v => [(a, v)]
  | (k, w) :: m, a, v => if a < k then (a, v) :: (k, w) :: m else (k, w) :: Memory.insert m a v

/-- Store `v` at `a`, keeping the canonical form. -/
def Memory.write (m : Memory) (a : Nat) (v : Byte) : Memory :=
  if v = Config.unlisted then Memory.erase m a else Memory.insert (Memory.erase m a) a v

/-- The canonical form: addresses strictly rising, no entry equal to the unlisted byte. -/
def Memory.wf : Memory → Bool
  | [] => true
  | (k, v) :: m =>
    decide (v ≠ Config.unlisted) && m.all (fun c => decide (k < c.1)) && Memory.wf m

/-- Every listed address satisfies `p`. -/
def Memory.within (p : Nat → Bool) (m : Memory) : Bool := m.all fun c => p c.1

/-- The store that holds exactly the given writes, in order, over nothing. -/
def Memory.ofCells (cells : List Host.Cell) : Memory :=
  cells.foldl (fun m c => Memory.write m c.1 c.2) []

/-- The store that holds a byte sequence from address `base` up. -/
def Memory.ofBytes : Nat → List Byte → Memory
  | _, [] => []
  | base, v :: vs =>
    if v = Config.unlisted then Memory.ofBytes (base + 1) vs
    else (base, v) :: Memory.ofBytes (base + 1) vs

end Sys2Proof.Machine
end

