-- ==== Sys2Proof/Machine/Bus.lean ====
section
/-! DEFINITION. The Address Space and the Bank Controller (20_memory): routing by address
range, the ROM windows, the MBC1 control registers and the cartridge RAM. `none` is an access
the spec faults with UnmappedAddressError (R94). -/

namespace Sys2Proof.Machine

/-- The regions of the address space (R91). -/
inductive Region where
  | romFixed | romSwitch | videoRam | cartRam | workRam | echo | oam | unusable | io | highRam | ie
  deriving DecidableEq, Repr

/-- Routing is by address range (R91). -/
def regionOf (a : Word) : Region :=
  if a.toNat < 0x4000 then .romFixed
  else if a.toNat < 0x8000 then .romSwitch
  else if a.toNat < 0xA000 then .videoRam
  else if a.toNat < 0xC000 then .cartRam
  else if a.toNat < 0xE000 then .workRam
  else if a.toNat < 0xFE00 then .echo
  else if a.toNat < 0xFEA0 then .oam
  else if a.toNat < 0xFF00 then .unusable
  else if a.toNat < 0xFF80 then .io
  else if a.toNat < 0xFFFF then .highRam
  else .ie

/-- The regions that are plain storage keyed by address (R106). -/
def Region.isStorage : Region → Bool
  | .videoRam | .workRam | .oam | .io | .highRam | .ie => true
  | .romFixed | .romSwitch | .cartRam | .echo | .unusable => false

/-- The bank the switchable ROM window shows: 1 for RomOnly (R98), the masked 7-bit value
`{BANK2, BANK1}` for MBC1 (R104). -/
def State.effRomBank (s : State) : Nat :=
  match s.bank with
  | .romOnly => 1
  | .mbc1 r => (r.bank2.toNat * 32 + r.bank1.toNat) &&& (s.romBankCount - 1)

/-- The cartridge RAM byte an access to `a` in 0xA000-0xBFFF reaches, if any (R105). -/
def State.cartRamIndex (s : State) (a : Word) : Option Nat :=
  match s.bank with
  | .romOnly => none
  | .mbc1 r =>
    let off := a.toNat - 0xA000
    let ramBanks := max 1 (s.ramSize / Config.ramBankSize)
    let ramBank := if r.mode then r.bank2.toNat &&& (ramBanks - 1) else 0
    if s.ramSize > 0 ∧ r.ramEn = true ∧ off < min s.ramSize Config.ramBankSize then
      some (ramBank * Config.ramBankSize + off)
    else none

/-- The image offset a read of the switchable window reaches (R96). -/
def State.romSwitchOffset (s : State) (a : Word) : Nat :=
  s.effRomBank * Config.bankSize + (a.toNat - 0x4000)

/-- `MemRead(a, 1)` (R92): the byte of the region's read rule, or no mapped byte. -/
def State.busRead (s : State) (a : Word) : Option Byte :=
  match regionOf a with
  | .romFixed => some (s.rom.read a.toNat)
  | .romSwitch => some (s.rom.read (s.romSwitchOffset a))
  | .cartRam => (s.cartRamIndex a).map s.cartRam.read
  | .videoRam | .workRam | .oam | .io | .highRam | .ie => some (s.mem.read a.toNat)
  | .echo | .unusable => none

/-- An MBC1 control write of `v`, selected by address bits 14 and 13 (R99 to R103). -/
def Mbc1.control (r : Mbc1) (a : Word) (v : Byte) : Mbc1 :=
  if a.toNat < 0x2000 then { r with ramEn := decide (v.extractLsb' 0 4 = (0xA : BitVec 4)) }
  else if a.toNat < 0x4000 then
    { r with bank1 := if v.extractLsb' 0 5 = (0 : BitVec 5) then 1 else v.extractLsb' 0 5 }
  else if a.toNat < 0x6000 then { r with bank2 := v.extractLsb' 0 2 }
  else { r with mode := v.getLsbD 0 }

/-- A write below 0x8000: a control write for MBC1, no legal write for RomOnly (R98, R99). -/
def State.controlWrite (s : State) (a : Word) (v : Byte) : Option State :=
  match s.bank with
  | .romOnly => none
  | .mbc1 r => some { s with bank := .mbc1 (r.control a v) }

/-- `MemWrite(a, 1, v)` (R93): the state after it, or no legal write. -/
def State.busWrite (s : State) (a : Word) (v : Byte) : Option State :=
  match regionOf a with
  | .romFixed | .romSwitch => s.controlWrite a v
  | .cartRam => (s.cartRamIndex a).map fun i => { s with cartRam := s.cartRam.write i v }
  | .videoRam | .workRam | .oam | .io | .highRam | .ie =>
    some { s with mem := s.mem.write a.toNat v }
  | .echo | .unusable => none

/-- The address of one write of the host (R114). -/
def HostWrite.address : HostWrite → Nat
  | .io off _ => 0xFF00 + off.val
  | .oam off _ => 0xFE00 + off.val

/-- The byte of one write of the host (R114). -/
def HostWrite.value : HostWrite → Byte
  | .io _ v => v
  | .oam _ v => v

/-- The host's writes at one step boundary, in order (R114). -/
def Memory.hostWrites (m : Memory) (ws : List HostWrite) : Memory :=
  ws.foldl (fun m w => m.write w.address w.value) m

/-- The step boundary: the host writes what it has scheduled before this step (R114). -/
def State.hostPhase (s : State) : State :=
  { s with mem := s.mem.hostWrites (s.hostInput.headD []), hostInput := s.hostInput.tail }

end Sys2Proof.Machine
end

