-- ==== Sys2Proof/Machine/Registers.lean ====
section
/-! DEFINITION. The register file (10_state R40 to R49): the one place registers are read and
written, with the aliasing of the pairs and the forced low nibble of F. -/

namespace Sys2Proof.Machine

/-- The eight 8-bit register names (R40). -/
inductive Reg8 where
  | a | f | b | c | d | e | h | l
  deriving DecidableEq, Repr

/-- The 16-bit register names (R40). -/
inductive Reg16 where
  | af | bc | de | hl | sp | pc
  deriving DecidableEq, Repr

/-- A 16-bit register read (R43); bits 3 to 0 of F always read as 0 (R44), whatever is stored.
DEDUCED (log 11). -/
def State.get16 (s : State) : Reg16 → Word
  | .af => s.af &&& 0xFFF0
  | .bc => s.bc
  | .de => s.de
  | .hl => s.hl
  | .sp => s.sp
  | .pc => s.pc

/-- A 16-bit register write (R43); a write to AF is masked (R45). -/
def State.set16 (s : State) (r : Reg16) (v : Word) : State :=
  match r with
  | .af => { s with af := v &&& 0xFFF0 }
  | .bc => { s with bc := v }
  | .de => { s with de := v }
  | .hl => { s with hl := v }
  | .sp => { s with sp := v }
  | .pc => { s with pc := v }

/-- The pair an 8-bit register is a byte of (R41). -/
def Reg8.pair : Reg8 → Reg16
  | .a | .f => .af
  | .b | .c => .bc
  | .d | .e => .de
  | .h | .l => .hl

/-- Whether an 8-bit register is the high byte of its pair (R41). -/
def Reg8.isHigh : Reg8 → Bool
  | .a | .b | .d | .h => true
  | .f | .c | .e | .l => false

/-- An 8-bit register read: its byte of the parent pair (R42, R44). -/
def State.get8 (s : State) (r : Reg8) : Byte :=
  if r.isHigh then hiByte (s.get16 r.pair) else loByte (s.get16 r.pair)

/-- An 8-bit register write: only its byte of the parent pair changes (R42, R45). -/
def State.set8 (s : State) (r : Reg8) (v : Byte) : State :=
  if r.isHigh then s.set16 r.pair (mkWord v (loByte (s.get16 r.pair)))
  else s.set16 r.pair (mkWord (hiByte (s.get16 r.pair)) v)

/-- The accumulator. -/
def State.acc (s : State) : Byte := s.get8 .a

/-- The flag byte F. -/
def State.flags (s : State) : Byte := s.get8 .f

/-- Write an 8-bit result to A and a flag byte to F, `A <- r; F <- f'`. -/
def State.setAccFlags (s : State) (r f : Byte) : State := (s.set8 .a r).set8 .f f

end Sys2Proof.Machine
end

