-- ==== Sys2Proof/Machine/Ops.lean ====
section
/-! DEFINITION. The named operations the meanings are built from (40_engine, 60_exceptions):
bus accesses that fault, immediates, the stack, the end of a handler, the latch, fatal errors,
the interrupt dispatch and the return from it. An operation takes what to do next as its last
argument; the first failing access decides the outcome and nothing is committed (R199, R456). -/

namespace Sys2Proof.Machine

/-- What a step or a handler answers. -/
abbrev Out := Host.Outcome State Fault Refusal

/-- `raise E(info)` (R13): the step fails with the record and commits nothing (R199). -/
def raise (e : FatalError) : Out := .fault (.fatal e)

/-- The state a failing step leaves: the state before it with ERROR set (R199, R455). -/
def State.recordError (s : State) (e : FatalError) : State := { s with error := some e }

/-- A byte read through the bus that faults with `kind` where the address is unmapped (R94, R205). -/
def readByte (kind : AccessKind) (a : Word) (s : State) (k : Byte → Out) : Out :=
  match s.busRead a with
  | some v => k v
  | none => raise (.unmappedAddressError a kind)

/-- A data read (R454). -/
def loadByte (a : Word) (s : State) (k : Byte → Out) : Out := readByte .read a s k

/-- An immediate, secondary opcode or latch fetch (R194, R454). -/
def fetchByte (a : Word) (s : State) (k : Byte → Out) : Out := readByte .fetch a s k

/-- A data write (R454). -/
def storeByte (a : Word) (v : Byte) (s : State) (k : State → Out) : Out :=
  match s.busWrite a v with
  | some t => k t
  | none => raise (.unmappedAddressError a .write)

/-- `Push16(v)` (R202): the high byte at SP-1, then the low byte at SP-2. -/
def push16 (v : Word) (s : State) (k : State → Out) : Out :=
  storeByte (s.sp - 1) (hiByte v) (s.set16 .sp (s.sp - 1)) fun t =>
    storeByte (t.sp - 1) (loByte v) (t.set16 .sp (t.sp - 1)) k

/-- `Pop16()` (R202): the low byte at SP, then the high byte at SP+1. -/
def pop16 (s : State) (k : Word → State → Out) : Out :=
  loadByte s.sp s fun lo =>
    loadByte (s.sp + 1) s fun hi => k (mkWord hi lo) (s.set16 .sp (s.sp + 2))

/-- The state when a handler set no target: PC moves past the instruction (R196), and the count
of the row is returned (R197). -/
def State.retired (len : Word) (cyc : Nat) (s : State) : State :=
  { s with pc := s.pc + len, cycles := cyc }

/-- The state when a handler set an absolute next PC (R196). -/
def State.jumped (target : Word) (cyc : Nat) (s : State) : State :=
  { s with pc := target, cycles := cyc }

/-- The end of a handler that set no target. -/
def retire (len : Word) (cyc : Nat) (s : State) : Out := .next (s.retired len cyc)

/-- The end of a handler that set an absolute next PC. -/
def jumpTo (target : Word) (cyc : Nat) (s : State) : Out := .next (s.jumped target cyc)

/-- IE, the byte at 0xFFFF (R458). -/
def State.ie (s : State) : Byte := s.mem.read 0xFFFF

/-- IF, the byte at 0xFF0F (R458). -/
def State.iflag (s : State) : Byte := s.mem.read 0xFF0F

/-- `pend` (R460); the two reads never fault. -/
def State.pend (s : State) : Byte := s.ie &&& s.iflag &&& 0x1F

/-- The lowest set bit of `pend`: VBlank first, Joypad last (R463). -/
def lowestLine (p : Byte) : Nat :=
  if p.getLsbD 0 then 0 else if p.getLsbD 1 then 1 else if p.getLsbD 2 then 2
  else if p.getLsbD 3 then 3 else 4

/-- The vector address of line `i` (R458). -/
def vectorOf (i : Nat) : Word := BitVec.ofNat 16 (0x0040 + 8 * i)

/-- Fetch and latch, the last action of an instruction step and of a dispatch (R198). -/
def latch (s : State) : Out := fetchByte s.pc s fun b => .next { s with ir := b }

/-- The acknowledge of line `i`: its request bit of IF is cleared, IME is cleared, PC goes to the
vector (R462). -/
def State.acknowledged (i : Nat) (s : State) : State :=
  { s with
    mem := s.mem.write 0xFF0F (s.iflag &&& ~~~((1 : Byte) <<< i))
    ime := false, pc := vectorOf i, cycles := Config.dispatchCycles }

/-- Taking an interrupt (R462): push PC, clear the request bit, clear IME, go to the vector and
latch. A push that would write IE is refused first (R470). -/
def dispatch (s : State) : Out :=
  if s.sp = 0 ∨ s.sp = 1 then raise (.unimplementedOpcodeError s.ir s.pc .dispatchPushToIE)
  else push16 s.pc s fun t => latch (t.acknowledged (lowestLine s.pend))

/-- The return from an interrupt (47_control R399): IME is set at once and a pending EI is
absorbed. -/
def State.interruptsOn (s : State) : State := { s with ime := true, eiPending := false }

/-- The promotion of a pending EI at the end of the instruction step after it (R464). -/
def State.promoted (promote : Bool) (s : State) : State :=
  if promote && s.eiPending then s.interruptsOn else s

end Sys2Proof.Machine
end

