-- ==== Sys2Proof/Machine/Operands.lean ====
section
/-! DEFINITION. The operand forms (30_encoding R152 to R156, 40_engine R195, R201): the 8-bit
selector with its memory form, the 16-bit selectors and the condition test. -/

namespace Sys2Proof

/-- The register an 8-bit selector names; `(HL)` names none (R152). -/
def R8.reg : R8 → Option Machine.Reg8
  | .b => some .b
  | .c => some .c
  | .d => some .d
  | .e => some .e
  | .h => some .h
  | .l => some .l
  | .mhl => none
  | .a => some .a

/-- The register an `rp` selector names (R153). -/
def Rp.reg : Rp → Machine.Reg16
  | .bc => .bc
  | .de => .de
  | .hl => .hl
  | .sp => .sp

/-- The register an `rp2` selector names (R153). -/
def Rp2.reg : Rp2 → Machine.Reg16
  | .bc => .bc
  | .de => .de
  | .hl => .hl
  | .af => .af

/-- The condition test on the flag byte (R154, R201). -/
def Cond.holds (cc : Cond) (f : Byte) : Bool :=
  match cc with
  | .nz => !Machine.flagZ f
  | .z => Machine.flagZ f
  | .nc => !Machine.flagC f
  | .c => Machine.flagC f

namespace Machine

/-- `read_r8` (R195): a register, or the byte at HL. -/
def readR8 (r : R8) (s : State) (k : Byte → Out) : Out :=
  match r.reg with
  | some q => k (s.get8 q)
  | none => loadByte s.hl s k

/-- `write_r8` (R195): a register, or the byte at HL. -/
def writeR8 (r : R8) (v : Byte) (s : State) (k : State → Out) : Out :=
  match r.reg with
  | some q => k (s.set8 q v)
  | none => storeByte s.hl v s k

end Machine

end Sys2Proof
end

