-- ==== Sys2Proof/Machine/Alu16.lean ====
section
/-! DEFINITION. The 16-bit arithmetic (45_alu16 R340 to R344). -/

namespace Sys2Proof.Machine

/-- ADD HL,rr (R340). -/
def addHl (r : Rp) (cyc : Nat) (s : State) : Out :=
  let rf := aluAdd16Hl s.hl (s.get16 r.reg) s.flags
  retire 1 cyc ((s.set16 .hl rf.1).set8 .f rf.2)

/-- INC rr and DEC rr: the register moves by `delta`, no flag is written (R341, R342). -/
def stepRp (delta : Word) (r : Rp) (cyc : Nat) (s : State) : Out :=
  retire 1 cyc (s.set16 r.reg (s.get16 r.reg + delta))

/-- ADD SP,e8 and LD HL,SP+e8: the sum to `dst`, with the flags of R229 (R343, R344). -/
def spPlus (dst : Rp) (e : Byte) (cyc : Nat) (s : State) : Out :=
  let rf := aluAddSpE8 s.sp e
  retire 2 cyc ((s.set16 dst.reg rf.1).set8 .f rf.2)

/-- INC BC (R341). -/
def execInc_bc (s : State) : Out := stepRp 1 .bc 2 s

/-- ADD HL,BC (R340). -/
def execAdd_hl_bc (s : State) : Out := addHl .bc 2 s

/-- DEC BC (R342). -/
def execDec_bc (s : State) : Out := stepRp (-1) .bc 2 s

/-- INC DE (R341). -/
def execInc_de (s : State) : Out := stepRp 1 .de 2 s

/-- ADD HL,DE (R340). -/
def execAdd_hl_de (s : State) : Out := addHl .de 2 s

/-- DEC DE (R342). -/
def execDec_de (s : State) : Out := stepRp (-1) .de 2 s

/-- INC HL (R341). -/
def execInc_hl (s : State) : Out := stepRp 1 .hl 2 s

/-- ADD HL,HL (R340). -/
def execAdd_hl_hl (s : State) : Out := addHl .hl 2 s

/-- DEC HL (R342). -/
def execDec_hl (s : State) : Out := stepRp (-1) .hl 2 s

/-- INC SP (R341). -/
def execInc_sp (s : State) : Out := stepRp 1 .sp 2 s

/-- ADD HL,SP (R340). -/
def execAdd_hl_sp (s : State) : Out := addHl .sp 2 s

/-- DEC SP (R342). -/
def execDec_sp (s : State) : Out := stepRp (-1) .sp 2 s

/-- ADD SP,e8 (R343). -/
def execAdd_sp_e8 (e : Byte) (s : State) : Out := spPlus .sp e 4 s

/-- LD HL,SP+e8 (R344). -/
def execLd_hl_sp_e8 (e : Byte) (s : State) : Out := spPlus .hl e 3 s

end Sys2Proof.Machine
end

