-- ==== Sys2Proof/Machine/Alu8.lean ====
section
/-! DEFINITION. The 8-bit arithmetic and logic (44_alu8 R300 to R315) over the Flag Engine. -/

namespace Sys2Proof.Machine

/-- Write a result to A and a flag byte to F, and end a one-byte handler. -/
def accFlags (rf : Byte × Byte) (cyc : Nat) (s : State) : Out :=
  retire 1 cyc (s.setAccFlags rf.1 rf.2)

/-- What an ALU operation writes: A and F, but only F for CP (R300 to R307). -/
def State.aluWritten (op : AluOp) (v : Byte) (s : State) : State :=
  let rf := alu8 op s.acc v s.flags
  match op with
  | .cp => s.set8 .f rf.2
  | .add | .adc | .sub | .sbc | .and | .xor | .or => s.setAccFlags rf.1 rf.2

/-- An ALU operation on an r8 operand (R300 to R307). -/
def aluR8 (op : AluOp) (src : R8) (cyc : Nat) (s : State) : Out :=
  readR8 src s fun v => retire 1 cyc (s.aluWritten op v)

/-- An ALU operation on an immediate (R300 to R307). -/
def aluImm (op : AluOp) (n : Byte) (cyc : Nat) (s : State) : Out :=
  retire 2 cyc (s.aluWritten op n)

/-- INC or DEC of an r8 operand (R308 to R311): read, compute, write back, then the flags. -/
def stepR8 (f : Byte → Byte → Byte × Byte) (r : R8) (cyc : Nat) (s : State) : Out :=
  readR8 r s fun v =>
    writeR8 r (f v s.flags).1 s fun t => retire 1 cyc (t.set8 .f (f v s.flags).2)

/-- INC B (R308). -/
def execInc_b (s : State) : Out := stepR8 aluInc8 .b 1 s

/-- DEC B (R310). -/
def execDec_b (s : State) : Out := stepR8 aluDec8 .b 1 s

/-- INC C (R308). -/
def execInc_c (s : State) : Out := stepR8 aluInc8 .c 1 s

/-- DEC C (R310). -/
def execDec_c (s : State) : Out := stepR8 aluDec8 .c 1 s

/-- INC D (R308). -/
def execInc_d (s : State) : Out := stepR8 aluInc8 .d 1 s

/-- DEC D (R310). -/
def execDec_d (s : State) : Out := stepR8 aluDec8 .d 1 s

/-- INC E (R308). -/
def execInc_e (s : State) : Out := stepR8 aluInc8 .e 1 s

/-- DEC E (R310). -/
def execDec_e (s : State) : Out := stepR8 aluDec8 .e 1 s

/-- INC H (R308). -/
def execInc_h (s : State) : Out := stepR8 aluInc8 .h 1 s

/-- DEC H (R310). -/
def execDec_h (s : State) : Out := stepR8 aluDec8 .h 1 s

/-- DAA (R312). -/
def execDaa (s : State) : Out := accFlags (aluDaa s.acc s.flags) 1 s

/-- INC L (R308). -/
def execInc_l (s : State) : Out := stepR8 aluInc8 .l 1 s

/-- DEC L (R310). -/
def execDec_l (s : State) : Out := stepR8 aluDec8 .l 1 s

/-- CPL (R313). -/
def execCpl (s : State) : Out := accFlags (aluCpl s.acc s.flags) 1 s

/-- INC (HL) (R309). -/
def execInc_mhl (s : State) : Out := stepR8 aluInc8 .mhl 3 s

/-- DEC (HL) (R311). -/
def execDec_mhl (s : State) : Out := stepR8 aluDec8 .mhl 3 s

/-- SCF (R314). -/
def execScf (s : State) : Out := retire 1 1 (s.set8 .f (aluScf s.flags))

/-- INC A (R308). -/
def execInc_a (s : State) : Out := stepR8 aluInc8 .a 1 s

/-- DEC A (R310). -/
def execDec_a (s : State) : Out := stepR8 aluDec8 .a 1 s

/-- CCF (R315). -/
def execCcf (s : State) : Out := retire 1 1 (s.set8 .f (aluCcf s.flags))

/-- ADD A,B (R300). -/
def execAdd_a_b (s : State) : Out := aluR8 .add .b 1 s

/-- ADD A,C (R300). -/
def execAdd_a_c (s : State) : Out := aluR8 .add .c 1 s

/-- ADD A,D (R300). -/
def execAdd_a_d (s : State) : Out := aluR8 .add .d 1 s

/-- ADD A,E (R300). -/
def execAdd_a_e (s : State) : Out := aluR8 .add .e 1 s

/-- ADD A,H (R300). -/
def execAdd_a_h (s : State) : Out := aluR8 .add .h 1 s

/-- ADD A,L (R300). -/
def execAdd_a_l (s : State) : Out := aluR8 .add .l 1 s

/-- ADD A,(HL) (R300). -/
def execAdd_a_mhl (s : State) : Out := aluR8 .add .mhl 2 s

/-- ADD A,A (R300). -/
def execAdd_a_a (s : State) : Out := aluR8 .add .a 1 s

/-- ADC A,B (R301). -/
def execAdc_a_b (s : State) : Out := aluR8 .adc .b 1 s

/-- ADC A,C (R301). -/
def execAdc_a_c (s : State) : Out := aluR8 .adc .c 1 s

/-- ADC A,D (R301). -/
def execAdc_a_d (s : State) : Out := aluR8 .adc .d 1 s

/-- ADC A,E (R301). -/
def execAdc_a_e (s : State) : Out := aluR8 .adc .e 1 s

/-- ADC A,H (R301). -/
def execAdc_a_h (s : State) : Out := aluR8 .adc .h 1 s

/-- ADC A,L (R301). -/
def execAdc_a_l (s : State) : Out := aluR8 .adc .l 1 s

/-- ADC A,(HL) (R301). -/
def execAdc_a_mhl (s : State) : Out := aluR8 .adc .mhl 2 s

/-- ADC A,A (R301). -/
def execAdc_a_a (s : State) : Out := aluR8 .adc .a 1 s

/-- SUB B (R302). -/
def execSub_b (s : State) : Out := aluR8 .sub .b 1 s

/-- SUB C (R302). -/
def execSub_c (s : State) : Out := aluR8 .sub .c 1 s

/-- SUB D (R302). -/
def execSub_d (s : State) : Out := aluR8 .sub .d 1 s

/-- SUB E (R302). -/
def execSub_e (s : State) : Out := aluR8 .sub .e 1 s

/-- SUB H (R302). -/
def execSub_h (s : State) : Out := aluR8 .sub .h 1 s

/-- SUB L (R302). -/
def execSub_l (s : State) : Out := aluR8 .sub .l 1 s

/-- SUB (HL) (R302). -/
def execSub_mhl (s : State) : Out := aluR8 .sub .mhl 2 s

/-- SUB A (R302). -/
def execSub_a (s : State) : Out := aluR8 .sub .a 1 s

/-- SBC A,B (R303). -/
def execSbc_a_b (s : State) : Out := aluR8 .sbc .b 1 s

/-- SBC A,C (R303). -/
def execSbc_a_c (s : State) : Out := aluR8 .sbc .c 1 s

/-- SBC A,D (R303). -/
def execSbc_a_d (s : State) : Out := aluR8 .sbc .d 1 s

/-- SBC A,E (R303). -/
def execSbc_a_e (s : State) : Out := aluR8 .sbc .e 1 s

/-- SBC A,H (R303). -/
def execSbc_a_h (s : State) : Out := aluR8 .sbc .h 1 s

/-- SBC A,L (R303). -/
def execSbc_a_l (s : State) : Out := aluR8 .sbc .l 1 s

/-- SBC A,(HL) (R303). -/
def execSbc_a_mhl (s : State) : Out := aluR8 .sbc .mhl 2 s

/-- SBC A,A (R303). -/
def execSbc_a_a (s : State) : Out := aluR8 .sbc .a 1 s

/-- AND B (R304). -/
def execAnd_b (s : State) : Out := aluR8 .and .b 1 s

/-- AND C (R304). -/
def execAnd_c (s : State) : Out := aluR8 .and .c 1 s

/-- AND D (R304). -/
def execAnd_d (s : State) : Out := aluR8 .and .d 1 s

/-- AND E (R304). -/
def execAnd_e (s : State) : Out := aluR8 .and .e 1 s

/-- AND H (R304). -/
def execAnd_h (s : State) : Out := aluR8 .and .h 1 s

/-- AND L (R304). -/
def execAnd_l (s : State) : Out := aluR8 .and .l 1 s

/-- AND (HL) (R304). -/
def execAnd_mhl (s : State) : Out := aluR8 .and .mhl 2 s

/-- AND A (R304). -/
def execAnd_a (s : State) : Out := aluR8 .and .a 1 s

/-- XOR B (R305). -/
def execXor_b (s : State) : Out := aluR8 .xor .b 1 s

/-- XOR C (R305). -/
def execXor_c (s : State) : Out := aluR8 .xor .c 1 s

/-- XOR D (R305). -/
def execXor_d (s : State) : Out := aluR8 .xor .d 1 s

/-- XOR E (R305). -/
def execXor_e (s : State) : Out := aluR8 .xor .e 1 s

/-- XOR H (R305). -/
def execXor_h (s : State) : Out := aluR8 .xor .h 1 s

/-- XOR L (R305). -/
def execXor_l (s : State) : Out := aluR8 .xor .l 1 s

/-- XOR (HL) (R305). -/
def execXor_mhl (s : State) : Out := aluR8 .xor .mhl 2 s

/-- XOR A (R305). -/
def execXor_a (s : State) : Out := aluR8 .xor .a 1 s

/-- OR B (R306). -/
def execOr_b (s : State) : Out := aluR8 .or .b 1 s

/-- OR C (R306). -/
def execOr_c (s : State) : Out := aluR8 .or .c 1 s

/-- OR D (R306). -/
def execOr_d (s : State) : Out := aluR8 .or .d 1 s

/-- OR E (R306). -/
def execOr_e (s : State) : Out := aluR8 .or .e 1 s

/-- OR H (R306). -/
def execOr_h (s : State) : Out := aluR8 .or .h 1 s

/-- OR L (R306). -/
def execOr_l (s : State) : Out := aluR8 .or .l 1 s

/-- OR (HL) (R306). -/
def execOr_mhl (s : State) : Out := aluR8 .or .mhl 2 s

/-- OR A (R306). -/
def execOr_a (s : State) : Out := aluR8 .or .a 1 s

/-- CP B (R307). -/
def execCp_b (s : State) : Out := aluR8 .cp .b 1 s

/-- CP C (R307). -/
def execCp_c (s : State) : Out := aluR8 .cp .c 1 s

/-- CP D (R307). -/
def execCp_d (s : State) : Out := aluR8 .cp .d 1 s

/-- CP E (R307). -/
def execCp_e (s : State) : Out := aluR8 .cp .e 1 s

/-- CP H (R307). -/
def execCp_h (s : State) : Out := aluR8 .cp .h 1 s

/-- CP L (R307). -/
def execCp_l (s : State) : Out := aluR8 .cp .l 1 s

/-- CP (HL) (R307). -/
def execCp_mhl (s : State) : Out := aluR8 .cp .mhl 2 s

/-- CP A (R307). -/
def execCp_a (s : State) : Out := aluR8 .cp .a 1 s

/-- ADD A,d8 (R300). -/
def execAdd_a_d8 (n : Byte) (s : State) : Out := aluImm .add n 2 s

/-- ADC A,d8 (R301). -/
def execAdc_a_d8 (n : Byte) (s : State) : Out := aluImm .adc n 2 s

/-- SUB d8 (R302). -/
def execSub_d8 (n : Byte) (s : State) : Out := aluImm .sub n 2 s

/-- SBC A,d8 (R303). -/
def execSbc_a_d8 (n : Byte) (s : State) : Out := aluImm .sbc n 2 s

/-- AND d8 (R304). -/
def execAnd_d8 (n : Byte) (s : State) : Out := aluImm .and n 2 s

/-- XOR d8 (R305). -/
def execXor_d8 (n : Byte) (s : State) : Out := aluImm .xor n 2 s

/-- OR d8 (R306). -/
def execOr_d8 (n : Byte) (s : State) : Out := aluImm .or n 2 s

/-- CP d8 (R307). -/
def execCp_d8 (n : Byte) (s : State) : Out := aluImm .cp n 2 s

end Sys2Proof.Machine
end

