-- ==== Sys2Proof/Machine/Bit.lean ====
section
/-! DEFINITION. BIT, RES and SET (46_rotate_shift_bit R373 to R375). -/

namespace Sys2Proof.Machine

/-- BIT b,s: read only (R373). -/
def bitR8 (b : Fin 8) (r : R8) (cyc : Nat) (s : State) : Out :=
  readR8 r s fun v => retire 2 cyc (s.set8 .f (aluBit b v s.flags))

/-- RES b,s: the write happens even when the bit was clear (R374). -/
def resR8 (b : Fin 8) (r : R8) (cyc : Nat) (s : State) : Out :=
  readR8 r s fun v => writeR8 r (v &&& ~~~((1 : Byte) <<< b.val)) s (retire 2 cyc)

/-- SET b,s: the write happens even when the bit was set (R375). -/
def setR8 (b : Fin 8) (r : R8) (cyc : Nat) (s : State) : Out :=
  readR8 r s fun v => writeR8 r (v ||| ((1 : Byte) <<< b.val)) s (retire 2 cyc)

/-- BIT 0,B (R373). -/
def execBit_0_b (s : State) : Out := bitR8 0 .b 2 s

/-- BIT 0,C (R373). -/
def execBit_0_c (s : State) : Out := bitR8 0 .c 2 s

/-- BIT 0,D (R373). -/
def execBit_0_d (s : State) : Out := bitR8 0 .d 2 s

/-- BIT 0,E (R373). -/
def execBit_0_e (s : State) : Out := bitR8 0 .e 2 s

/-- BIT 0,H (R373). -/
def execBit_0_h (s : State) : Out := bitR8 0 .h 2 s

/-- BIT 0,L (R373). -/
def execBit_0_l (s : State) : Out := bitR8 0 .l 2 s

/-- BIT 0,(HL) (R373). -/
def execBit_0_mhl (s : State) : Out := bitR8 0 .mhl 3 s

/-- BIT 0,A (R373). -/
def execBit_0_a (s : State) : Out := bitR8 0 .a 2 s

/-- BIT 1,B (R373). -/
def execBit_1_b (s : State) : Out := bitR8 1 .b 2 s

/-- BIT 1,C (R373). -/
def execBit_1_c (s : State) : Out := bitR8 1 .c 2 s

/-- BIT 1,D (R373). -/
def execBit_1_d (s : State) : Out := bitR8 1 .d 2 s

/-- BIT 1,E (R373). -/
def execBit_1_e (s : State) : Out := bitR8 1 .e 2 s

/-- BIT 1,H (R373). -/
def execBit_1_h (s : State) : Out := bitR8 1 .h 2 s

/-- BIT 1,L (R373). -/
def execBit_1_l (s : State) : Out := bitR8 1 .l 2 s

/-- BIT 1,(HL) (R373). -/
def execBit_1_mhl (s : State) : Out := bitR8 1 .mhl 3 s

/-- BIT 1,A (R373). -/
def execBit_1_a (s : State) : Out := bitR8 1 .a 2 s

/-- BIT 2,B (R373). -/
def execBit_2_b (s : State) : Out := bitR8 2 .b 2 s

/-- BIT 2,C (R373). -/
def execBit_2_c (s : State) : Out := bitR8 2 .c 2 s

/-- BIT 2,D (R373). -/
def execBit_2_d (s : State) : Out := bitR8 2 .d 2 s

/-- BIT 2,E (R373). -/
def execBit_2_e (s : State) : Out := bitR8 2 .e 2 s

/-- BIT 2,H (R373). -/
def execBit_2_h (s : State) : Out := bitR8 2 .h 2 s

/-- BIT 2,L (R373). -/
def execBit_2_l (s : State) : Out := bitR8 2 .l 2 s

/-- BIT 2,(HL) (R373). -/
def execBit_2_mhl (s : State) : Out := bitR8 2 .mhl 3 s

/-- BIT 2,A (R373). -/
def execBit_2_a (s : State) : Out := bitR8 2 .a 2 s

/-- BIT 3,B (R373). -/
def execBit_3_b (s : State) : Out := bitR8 3 .b 2 s

/-- BIT 3,C (R373). -/
def execBit_3_c (s : State) : Out := bitR8 3 .c 2 s

/-- BIT 3,D (R373). -/
def execBit_3_d (s : State) : Out := bitR8 3 .d 2 s

/-- BIT 3,E (R373). -/
def execBit_3_e (s : State) : Out := bitR8 3 .e 2 s

/-- BIT 3,H (R373). -/
def execBit_3_h (s : State) : Out := bitR8 3 .h 2 s

/-- BIT 3,L (R373). -/
def execBit_3_l (s : State) : Out := bitR8 3 .l 2 s

/-- BIT 3,(HL) (R373). -/
def execBit_3_mhl (s : State) : Out := bitR8 3 .mhl 3 s

/-- BIT 3,A (R373). -/
def execBit_3_a (s : State) : Out := bitR8 3 .a 2 s

/-- BIT 4,B (R373). -/
def execBit_4_b (s : State) : Out := bitR8 4 .b 2 s

/-- BIT 4,C (R373). -/
def execBit_4_c (s : State) : Out := bitR8 4 .c 2 s

/-- BIT 4,D (R373). -/
def execBit_4_d (s : State) : Out := bitR8 4 .d 2 s

/-- BIT 4,E (R373). -/
def execBit_4_e (s : State) : Out := bitR8 4 .e 2 s

/-- BIT 4,H (R373). -/
def execBit_4_h (s : State) : Out := bitR8 4 .h 2 s

/-- BIT 4,L (R373). -/
def execBit_4_l (s : State) : Out := bitR8 4 .l 2 s

/-- BIT 4,(HL) (R373). -/
def execBit_4_mhl (s : State) : Out := bitR8 4 .mhl 3 s

/-- BIT 4,A (R373). -/
def execBit_4_a (s : State) : Out := bitR8 4 .a 2 s

/-- BIT 5,B (R373). -/
def execBit_5_b (s : State) : Out := bitR8 5 .b 2 s

/-- BIT 5,C (R373). -/
def execBit_5_c (s : State) : Out := bitR8 5 .c 2 s

/-- BIT 5,D (R373). -/
def execBit_5_d (s : State) : Out := bitR8 5 .d 2 s

/-- BIT 5,E (R373). -/
def execBit_5_e (s : State) : Out := bitR8 5 .e 2 s

/-- BIT 5,H (R373). -/
def execBit_5_h (s : State) : Out := bitR8 5 .h 2 s

/-- BIT 5,L (R373). -/
def execBit_5_l (s : State) : Out := bitR8 5 .l 2 s

/-- BIT 5,(HL) (R373). -/
def execBit_5_mhl (s : State) : Out := bitR8 5 .mhl 3 s

/-- BIT 5,A (R373). -/
def execBit_5_a (s : State) : Out := bitR8 5 .a 2 s

/-- BIT 6,B (R373). -/
def execBit_6_b (s : State) : Out := bitR8 6 .b 2 s

/-- BIT 6,C (R373). -/
def execBit_6_c (s : State) : Out := bitR8 6 .c 2 s

/-- BIT 6,D (R373). -/
def execBit_6_d (s : State) : Out := bitR8 6 .d 2 s

/-- BIT 6,E (R373). -/
def execBit_6_e (s : State) : Out := bitR8 6 .e 2 s

/-- BIT 6,H (R373). -/
def execBit_6_h (s : State) : Out := bitR8 6 .h 2 s

/-- BIT 6,L (R373). -/
def execBit_6_l (s : State) : Out := bitR8 6 .l 2 s

/-- BIT 6,(HL) (R373). -/
def execBit_6_mhl (s : State) : Out := bitR8 6 .mhl 3 s

/-- BIT 6,A (R373). -/
def execBit_6_a (s : State) : Out := bitR8 6 .a 2 s

/-- BIT 7,B (R373). -/
def execBit_7_b (s : State) : Out := bitR8 7 .b 2 s

/-- BIT 7,C (R373). -/
def execBit_7_c (s : State) : Out := bitR8 7 .c 2 s

/-- BIT 7,D (R373). -/
def execBit_7_d (s : State) : Out := bitR8 7 .d 2 s

/-- BIT 7,E (R373). -/
def execBit_7_e (s : State) : Out := bitR8 7 .e 2 s

/-- BIT 7,H (R373). -/
def execBit_7_h (s : State) : Out := bitR8 7 .h 2 s

/-- BIT 7,L (R373). -/
def execBit_7_l (s : State) : Out := bitR8 7 .l 2 s

/-- BIT 7,(HL) (R373). -/
def execBit_7_mhl (s : State) : Out := bitR8 7 .mhl 3 s

/-- BIT 7,A (R373). -/
def execBit_7_a (s : State) : Out := bitR8 7 .a 2 s

/-- RES 0,B (R374). -/
def execRes_0_b (s : State) : Out := resR8 0 .b 2 s

/-- RES 0,C (R374). -/
def execRes_0_c (s : State) : Out := resR8 0 .c 2 s

/-- RES 0,D (R374). -/
def execRes_0_d (s : State) : Out := resR8 0 .d 2 s

/-- RES 0,E (R374). -/
def execRes_0_e (s : State) : Out := resR8 0 .e 2 s

/-- RES 0,H (R374). -/
def execRes_0_h (s : State) : Out := resR8 0 .h 2 s

/-- RES 0,L (R374). -/
def execRes_0_l (s : State) : Out := resR8 0 .l 2 s

/-- RES 0,(HL) (R374). -/
def execRes_0_mhl (s : State) : Out := resR8 0 .mhl 4 s

/-- RES 0,A (R374). -/
def execRes_0_a (s : State) : Out := resR8 0 .a 2 s

/-- RES 1,B (R374). -/
def execRes_1_b (s : State) : Out := resR8 1 .b 2 s

/-- RES 1,C (R374). -/
def execRes_1_c (s : State) : Out := resR8 1 .c 2 s

/-- RES 1,D (R374). -/
def execRes_1_d (s : State) : Out := resR8 1 .d 2 s

/-- RES 1,E (R374). -/
def execRes_1_e (s : State) : Out := resR8 1 .e 2 s

/-- RES 1,H (R374). -/
def execRes_1_h (s : State) : Out := resR8 1 .h 2 s

/-- RES 1,L (R374). -/
def execRes_1_l (s : State) : Out := resR8 1 .l 2 s

/-- RES 1,(HL) (R374). -/
def execRes_1_mhl (s : State) : Out := resR8 1 .mhl 4 s

/-- RES 1,A (R374). -/
def execRes_1_a (s : State) : Out := resR8 1 .a 2 s

/-- RES 2,B (R374). -/
def execRes_2_b (s : State) : Out := resR8 2 .b 2 s

/-- RES 2,C (R374). -/
def execRes_2_c (s : State) : Out := resR8 2 .c 2 s

/-- RES 2,D (R374). -/
def execRes_2_d (s : State) : Out := resR8 2 .d 2 s

/-- RES 2,E (R374). -/
def execRes_2_e (s : State) : Out := resR8 2 .e 2 s

/-- RES 2,H (R374). -/
def execRes_2_h (s : State) : Out := resR8 2 .h 2 s

/-- RES 2,L (R374). -/
def execRes_2_l (s : State) : Out := resR8 2 .l 2 s

/-- RES 2,(HL) (R374). -/
def execRes_2_mhl (s : State) : Out := resR8 2 .mhl 4 s

/-- RES 2,A (R374). -/
def execRes_2_a (s : State) : Out := resR8 2 .a 2 s

/-- RES 3,B (R374). -/
def execRes_3_b (s : State) : Out := resR8 3 .b 2 s

/-- RES 3,C (R374). -/
def execRes_3_c (s : State) : Out := resR8 3 .c 2 s

/-- RES 3,D (R374). -/
def execRes_3_d (s : State) : Out := resR8 3 .d 2 s

/-- RES 3,E (R374). -/
def execRes_3_e (s : State) : Out := resR8 3 .e 2 s

/-- RES 3,H (R374). -/
def execRes_3_h (s : State) : Out := resR8 3 .h 2 s

/-- RES 3,L (R374). -/
def execRes_3_l (s : State) : Out := resR8 3 .l 2 s

/-- RES 3,(HL) (R374). -/
def execRes_3_mhl (s : State) : Out := resR8 3 .mhl 4 s

/-- RES 3,A (R374). -/
def execRes_3_a (s : State) : Out := resR8 3 .a 2 s

/-- RES 4,B (R374). -/
def execRes_4_b (s : State) : Out := resR8 4 .b 2 s

/-- RES 4,C (R374). -/
def execRes_4_c (s : State) : Out := resR8 4 .c 2 s

/-- RES 4,D (R374). -/
def execRes_4_d (s : State) : Out := resR8 4 .d 2 s

/-- RES 4,E (R374). -/
def execRes_4_e (s : State) : Out := resR8 4 .e 2 s

/-- RES 4,H (R374). -/
def execRes_4_h (s : State) : Out := resR8 4 .h 2 s

/-- RES 4,L (R374). -/
def execRes_4_l (s : State) : Out := resR8 4 .l 2 s

/-- RES 4,(HL) (R374). -/
def execRes_4_mhl (s : State) : Out := resR8 4 .mhl 4 s

/-- RES 4,A (R374). -/
def execRes_4_a (s : State) : Out := resR8 4 .a 2 s

/-- RES 5,B (R374). -/
def execRes_5_b (s : State) : Out := resR8 5 .b 2 s

/-- RES 5,C (R374). -/
def execRes_5_c (s : State) : Out := resR8 5 .c 2 s

/-- RES 5,D (R374). -/
def execRes_5_d (s : State) : Out := resR8 5 .d 2 s

/-- RES 5,E (R374). -/
def execRes_5_e (s : State) : Out := resR8 5 .e 2 s

/-- RES 5,H (R374). -/
def execRes_5_h (s : State) : Out := resR8 5 .h 2 s

/-- RES 5,L (R374). -/
def execRes_5_l (s : State) : Out := resR8 5 .l 2 s

/-- RES 5,(HL) (R374). -/
def execRes_5_mhl (s : State) : Out := resR8 5 .mhl 4 s

/-- RES 5,A (R374). -/
def execRes_5_a (s : State) : Out := resR8 5 .a 2 s

/-- RES 6,B (R374). -/
def execRes_6_b (s : State) : Out := resR8 6 .b 2 s

/-- RES 6,C (R374). -/
def execRes_6_c (s : State) : Out := resR8 6 .c 2 s

/-- RES 6,D (R374). -/
def execRes_6_d (s : State) : Out := resR8 6 .d 2 s

/-- RES 6,E (R374). -/
def execRes_6_e (s : State) : Out := resR8 6 .e 2 s

/-- RES 6,H (R374). -/
def execRes_6_h (s : State) : Out := resR8 6 .h 2 s

/-- RES 6,L (R374). -/
def execRes_6_l (s : State) : Out := resR8 6 .l 2 s

/-- RES 6,(HL) (R374). -/
def execRes_6_mhl (s : State) : Out := resR8 6 .mhl 4 s

/-- RES 6,A (R374). -/
def execRes_6_a (s : State) : Out := resR8 6 .a 2 s

/-- RES 7,B (R374). -/
def execRes_7_b (s : State) : Out := resR8 7 .b 2 s

/-- RES 7,C (R374). -/
def execRes_7_c (s : State) : Out := resR8 7 .c 2 s

/-- RES 7,D (R374). -/
def execRes_7_d (s : State) : Out := resR8 7 .d 2 s

/-- RES 7,E (R374). -/
def execRes_7_e (s : State) : Out := resR8 7 .e 2 s

/-- RES 7,H (R374). -/
def execRes_7_h (s : State) : Out := resR8 7 .h 2 s

/-- RES 7,L (R374). -/
def execRes_7_l (s : State) : Out := resR8 7 .l 2 s

/-- RES 7,(HL) (R374). -/
def execRes_7_mhl (s : State) : Out := resR8 7 .mhl 4 s

/-- RES 7,A (R374). -/
def execRes_7_a (s : State) : Out := resR8 7 .a 2 s

/-- SET 0,B (R375). -/
def execSet_0_b (s : State) : Out := setR8 0 .b 2 s

/-- SET 0,C (R375). -/
def execSet_0_c (s : State) : Out := setR8 0 .c 2 s

/-- SET 0,D (R375). -/
def execSet_0_d (s : State) : Out := setR8 0 .d 2 s

/-- SET 0,E (R375). -/
def execSet_0_e (s : State) : Out := setR8 0 .e 2 s

/-- SET 0,H (R375). -/
def execSet_0_h (s : State) : Out := setR8 0 .h 2 s

/-- SET 0,L (R375). -/
def execSet_0_l (s : State) : Out := setR8 0 .l 2 s

/-- SET 0,(HL) (R375). -/
def execSet_0_mhl (s : State) : Out := setR8 0 .mhl 4 s

/-- SET 0,A (R375). -/
def execSet_0_a (s : State) : Out := setR8 0 .a 2 s

/-- SET 1,B (R375). -/
def execSet_1_b (s : State) : Out := setR8 1 .b 2 s

/-- SET 1,C (R375). -/
def execSet_1_c (s : State) : Out := setR8 1 .c 2 s

/-- SET 1,D (R375). -/
def execSet_1_d (s : State) : Out := setR8 1 .d 2 s

/-- SET 1,E (R375). -/
def execSet_1_e (s : State) : Out := setR8 1 .e 2 s

/-- SET 1,H (R375). -/
def execSet_1_h (s : State) : Out := setR8 1 .h 2 s

/-- SET 1,L (R375). -/
def execSet_1_l (s : State) : Out := setR8 1 .l 2 s

/-- SET 1,(HL) (R375). -/
def execSet_1_mhl (s : State) : Out := setR8 1 .mhl 4 s

/-- SET 1,A (R375). -/
def execSet_1_a (s : State) : Out := setR8 1 .a 2 s

/-- SET 2,B (R375). -/
def execSet_2_b (s : State) : Out := setR8 2 .b 2 s

/-- SET 2,C (R375). -/
def execSet_2_c (s : State) : Out := setR8 2 .c 2 s

/-- SET 2,D (R375). -/
def execSet_2_d (s : State) : Out := setR8 2 .d 2 s

/-- SET 2,E (R375). -/
def execSet_2_e (s : State) : Out := setR8 2 .e 2 s

/-- SET 2,H (R375). -/
def execSet_2_h (s : State) : Out := setR8 2 .h 2 s

/-- SET 2,L (R375). -/
def execSet_2_l (s : State) : Out := setR8 2 .l 2 s

/-- SET 2,(HL) (R375). -/
def execSet_2_mhl (s : State) : Out := setR8 2 .mhl 4 s

/-- SET 2,A (R375). -/
def execSet_2_a (s : State) : Out := setR8 2 .a 2 s

/-- SET 3,B (R375). -/
def execSet_3_b (s : State) : Out := setR8 3 .b 2 s

/-- SET 3,C (R375). -/
def execSet_3_c (s : State) : Out := setR8 3 .c 2 s

/-- SET 3,D (R375). -/
def execSet_3_d (s : State) : Out := setR8 3 .d 2 s

/-- SET 3,E (R375). -/
def execSet_3_e (s : State) : Out := setR8 3 .e 2 s

/-- SET 3,H (R375). -/
def execSet_3_h (s : State) : Out := setR8 3 .h 2 s

/-- SET 3,L (R375). -/
def execSet_3_l (s : State) : Out := setR8 3 .l 2 s

/-- SET 3,(HL) (R375). -/
def execSet_3_mhl (s : State) : Out := setR8 3 .mhl 4 s

/-- SET 3,A (R375). -/
def execSet_3_a (s : State) : Out := setR8 3 .a 2 s

/-- SET 4,B (R375). -/
def execSet_4_b (s : State) : Out := setR8 4 .b 2 s

/-- SET 4,C (R375). -/
def execSet_4_c (s : State) : Out := setR8 4 .c 2 s

/-- SET 4,D (R375). -/
def execSet_4_d (s : State) : Out := setR8 4 .d 2 s

/-- SET 4,E (R375). -/
def execSet_4_e (s : State) : Out := setR8 4 .e 2 s

/-- SET 4,H (R375). -/
def execSet_4_h (s : State) : Out := setR8 4 .h 2 s

/-- SET 4,L (R375). -/
def execSet_4_l (s : State) : Out := setR8 4 .l 2 s

/-- SET 4,(HL) (R375). -/
def execSet_4_mhl (s : State) : Out := setR8 4 .mhl 4 s

/-- SET 4,A (R375). -/
def execSet_4_a (s : State) : Out := setR8 4 .a 2 s

/-- SET 5,B (R375). -/
def execSet_5_b (s : State) : Out := setR8 5 .b 2 s

/-- SET 5,C (R375). -/
def execSet_5_c (s : State) : Out := setR8 5 .c 2 s

/-- SET 5,D (R375). -/
def execSet_5_d (s : State) : Out := setR8 5 .d 2 s

/-- SET 5,E (R375). -/
def execSet_5_e (s : State) : Out := setR8 5 .e 2 s

/-- SET 5,H (R375). -/
def execSet_5_h (s : State) : Out := setR8 5 .h 2 s

/-- SET 5,L (R375). -/
def execSet_5_l (s : State) : Out := setR8 5 .l 2 s

/-- SET 5,(HL) (R375). -/
def execSet_5_mhl (s : State) : Out := setR8 5 .mhl 4 s

/-- SET 5,A (R375). -/
def execSet_5_a (s : State) : Out := setR8 5 .a 2 s

/-- SET 6,B (R375). -/
def execSet_6_b (s : State) : Out := setR8 6 .b 2 s

/-- SET 6,C (R375). -/
def execSet_6_c (s : State) : Out := setR8 6 .c 2 s

/-- SET 6,D (R375). -/
def execSet_6_d (s : State) : Out := setR8 6 .d 2 s

/-- SET 6,E (R375). -/
def execSet_6_e (s : State) : Out := setR8 6 .e 2 s

/-- SET 6,H (R375). -/
def execSet_6_h (s : State) : Out := setR8 6 .h 2 s

/-- SET 6,L (R375). -/
def execSet_6_l (s : State) : Out := setR8 6 .l 2 s

/-- SET 6,(HL) (R375). -/
def execSet_6_mhl (s : State) : Out := setR8 6 .mhl 4 s

/-- SET 6,A (R375). -/
def execSet_6_a (s : State) : Out := setR8 6 .a 2 s

/-- SET 7,B (R375). -/
def execSet_7_b (s : State) : Out := setR8 7 .b 2 s

/-- SET 7,C (R375). -/
def execSet_7_c (s : State) : Out := setR8 7 .c 2 s

/-- SET 7,D (R375). -/
def execSet_7_d (s : State) : Out := setR8 7 .d 2 s

/-- SET 7,E (R375). -/
def execSet_7_e (s : State) : Out := setR8 7 .e 2 s

/-- SET 7,H (R375). -/
def execSet_7_h (s : State) : Out := setR8 7 .h 2 s

/-- SET 7,L (R375). -/
def execSet_7_l (s : State) : Out := setR8 7 .l 2 s

/-- SET 7,(HL) (R375). -/
def execSet_7_mhl (s : State) : Out := setR8 7 .mhl 4 s

/-- SET 7,A (R375). -/
def execSet_7_a (s : State) : Out := setR8 7 .a 2 s

end Sys2Proof.Machine
end

