-- ==== Sys2Proof/Machine/Control.lean ====
section
/-! DEFINITION. The control transfers (47_control R390 to R400). No flag is written. -/

namespace Sys2Proof.Machine

/-- A conditional jump: to `target` when the condition holds on F, else past the instruction
(R391, R394). -/
def jumpIf (cc : Cond) (target : Word) (len : Word) (cyc taken : Nat) (s : State) : Out :=
  if cc.holds s.flags then jumpTo target taken s else retire len cyc s

/-- A call: push the address after the instruction, go to `target` (R395, R400). -/
def callTo (len : Word) (target : Word) (cyc : Nat) (s : State) : Out :=
  push16 (s.pc + len) s (jumpTo target cyc)

/-- CALL cc,a16 (R396). -/
def callIf (cc : Cond) (target : Word) (cyc taken : Nat) (s : State) : Out :=
  if cc.holds s.flags then callTo 3 target taken s else retire 3 cyc s

/-- A return: pop the target (R397). -/
def returnFrom (cyc : Nat) (s : State) : Out := pop16 s fun v t => jumpTo v cyc t

/-- RET cc (R398). -/
def returnIf (cc : Cond) (cyc taken : Nat) (s : State) : Out :=
  if cc.holds s.flags then returnFrom taken s else retire 1 cyc s

/-- JR e8 (R393). -/
def execJr_e8 (e : Byte) (s : State) : Out := jumpTo (s.pc + 2 + sext16 e) 3 s

/-- JR NZ,e8 (R394). -/
def execJr_nz_e8 (e : Byte) (s : State) : Out := jumpIf .nz (s.pc + 2 + sext16 e) 2 2 3 s

/-- JR Z,e8 (R394). -/
def execJr_z_e8 (e : Byte) (s : State) : Out := jumpIf .z (s.pc + 2 + sext16 e) 2 2 3 s

/-- JR NC,e8 (R394). -/
def execJr_nc_e8 (e : Byte) (s : State) : Out := jumpIf .nc (s.pc + 2 + sext16 e) 2 2 3 s

/-- JR C,e8 (R394). -/
def execJr_c_e8 (e : Byte) (s : State) : Out := jumpIf .c (s.pc + 2 + sext16 e) 2 2 3 s

/-- RET NZ (R398). -/
def execRet_nz (s : State) : Out := returnIf .nz 2 5 s

/-- JP NZ,a16 (R391). -/
def execJp_nz_a16 (nn : Word) (s : State) : Out := jumpIf .nz nn 3 3 4 s

/-- JP a16 (R390). -/
def execJp_a16 (nn : Word) (s : State) : Out := jumpTo nn 4 s

/-- CALL NZ,a16 (R396). -/
def execCall_nz_a16 (nn : Word) (s : State) : Out := callIf .nz nn 3 6 s

/-- RST 0x00 (R400). -/
def execRst_00 (s : State) : Out := callTo 1 0x00 4 s

/-- RET Z (R398). -/
def execRet_z (s : State) : Out := returnIf .z 2 5 s

/-- RET (R397). -/
def execRet (s : State) : Out := returnFrom 4 s

/-- JP Z,a16 (R391). -/
def execJp_z_a16 (nn : Word) (s : State) : Out := jumpIf .z nn 3 3 4 s

/-- CALL Z,a16 (R396). -/
def execCall_z_a16 (nn : Word) (s : State) : Out := callIf .z nn 3 6 s

/-- CALL a16 (R395). -/
def execCall_a16 (nn : Word) (s : State) : Out := callTo 3 nn 6 s

/-- RST 0x08 (R400). -/
def execRst_08 (s : State) : Out := callTo 1 0x08 4 s

/-- RET NC (R398). -/
def execRet_nc (s : State) : Out := returnIf .nc 2 5 s

/-- JP NC,a16 (R391). -/
def execJp_nc_a16 (nn : Word) (s : State) : Out := jumpIf .nc nn 3 3 4 s

/-- CALL NC,a16 (R396). -/
def execCall_nc_a16 (nn : Word) (s : State) : Out := callIf .nc nn 3 6 s

/-- RST 0x10 (R400). -/
def execRst_10 (s : State) : Out := callTo 1 0x10 4 s

/-- RET C (R398). -/
def execRet_c (s : State) : Out := returnIf .c 2 5 s

/-- RETI (R399). -/
def execReti (s : State) : Out := pop16 s fun v t => jumpTo v 4 t.interruptsOn

/-- JP C,a16 (R391). -/
def execJp_c_a16 (nn : Word) (s : State) : Out := jumpIf .c nn 3 3 4 s

/-- CALL C,a16 (R396). -/
def execCall_c_a16 (nn : Word) (s : State) : Out := callIf .c nn 3 6 s

/-- RST 0x18 (R400). -/
def execRst_18 (s : State) : Out := callTo 1 0x18 4 s

/-- RST 0x20 (R400). -/
def execRst_20 (s : State) : Out := callTo 1 0x20 4 s

/-- JP HL (R392). -/
def execJp_hl (s : State) : Out := jumpTo s.hl 1 s

/-- RST 0x28 (R400). -/
def execRst_28 (s : State) : Out := callTo 1 0x28 4 s

/-- RST 0x30 (R400). -/
def execRst_30 (s : State) : Out := callTo 1 0x30 4 s

/-- RST 0x38 (R400). -/
def execRst_38 (s : State) : Out := callTo 1 0x38 4 s

end Sys2Proof.Machine
end

