-- ==== Sys2Proof/Machine/Load16.lean ====
section
/-! DEFINITION. The 16-bit loads and the stack (43_load16_stack R280 to R285). Only POP AF writes
flags. -/

namespace Sys2Proof.Machine

/-- LD rr,d16 (R280). -/
def loadRp (r : Rp) (nn : Word) (cyc : Nat) (s : State) : Out := retire 3 cyc (s.set16 r.reg nn)

/-- LD (a16),SP: the low byte at `a`, then the high byte at `a + 1` (R281). -/
def storeSp (a : Word) (cyc : Nat) (s : State) : Out :=
  storeByte a (loByte s.sp) s fun t => storeByte (a + 1) (hiByte s.sp) t (retire 3 cyc)

/-- PUSH rr (R283). -/
def pushRp2 (r : Rp2) (cyc : Nat) (s : State) : Out := push16 (s.get16 r.reg) s (retire 1 cyc)

/-- POP rr (R284, R285); a write to AF is masked (R45). -/
def popRp2 (r : Rp2) (cyc : Nat) (s : State) : Out :=
  pop16 s fun v t => retire 1 cyc (t.set16 r.reg v)

/-- LD BC,d16 (R280). -/
def execLd_bc_d16 (nn : Word) (s : State) : Out := loadRp .bc nn 3 s

/-- LD (a16),SP (R281). -/
def execLd_ma16_sp (nn : Word) (s : State) : Out := storeSp nn 5 s

/-- LD DE,d16 (R280). -/
def execLd_de_d16 (nn : Word) (s : State) : Out := loadRp .de nn 3 s

/-- LD HL,d16 (R280). -/
def execLd_hl_d16 (nn : Word) (s : State) : Out := loadRp .hl nn 3 s

/-- LD SP,d16 (R280). -/
def execLd_sp_d16 (nn : Word) (s : State) : Out := loadRp .sp nn 3 s

/-- POP BC (R284). -/
def execPop_bc (s : State) : Out := popRp2 .bc 3 s

/-- PUSH BC (R283). -/
def execPush_bc (s : State) : Out := pushRp2 .bc 4 s

/-- POP DE (R284). -/
def execPop_de (s : State) : Out := popRp2 .de 3 s

/-- PUSH DE (R283). -/
def execPush_de (s : State) : Out := pushRp2 .de 4 s

/-- POP HL (R284). -/
def execPop_hl (s : State) : Out := popRp2 .hl 3 s

/-- PUSH HL (R283). -/
def execPush_hl (s : State) : Out := pushRp2 .hl 4 s

/-- POP AF (R285). -/
def execPop_af (s : State) : Out := popRp2 .af 3 s

/-- PUSH AF (R283). -/
def execPush_af (s : State) : Out := pushRp2 .af 4 s

/-- LD SP,HL (R282). -/
def execLd_sp_hl (s : State) : Out := retire 1 2 (s.set16 .sp (s.get16 .hl))

end Sys2Proof.Machine
end

