-- ==== Sys2Proof/Machine/Load8.lean ====
section
/-! DEFINITION. The 8-bit loads and stores (42_load8 R250 to R268). No flag is written. -/

namespace Sys2Proof.Machine

/-- LD between two r8 operands (R250, R251, R252). -/
def loadR8 (dst src : R8) (cyc : Nat) (s : State) : Out :=
  readR8 src s fun v => writeR8 dst v s (retire 1 cyc)

/-- LD of an immediate into an r8 operand (R253, R254). -/
def loadR8Imm (dst : R8) (n : Byte) (cyc : Nat) (s : State) : Out := writeR8 dst n s (retire 2 cyc)

/-- A load of A from an address (R255, R256, R264, R266, R268). -/
def loadA (a : Word) (len : Word) (cyc : Nat) (s : State) : Out :=
  loadByte a s fun v => retire len cyc (s.set8 .a v)

/-- A store of A to an address (R257, R258, R263, R265, R267). -/
def storeA (a : Word) (len : Word) (cyc : Nat) (s : State) : Out :=
  storeByte a (s.get8 .a) s (retire len cyc)

/-- A load of A from HL, which then moves by `delta` (R261, R262). -/
def loadAStep (delta : Word) (cyc : Nat) (s : State) : Out :=
  loadByte s.hl s fun v => retire 1 cyc ((s.set8 .a v).set16 .hl (s.hl + delta))

/-- A store of A to HL, which then moves by `delta` (R259, R260). -/
def storeAStep (delta : Word) (cyc : Nat) (s : State) : Out :=
  storeByte s.hl (s.get8 .a) s fun t => retire 1 cyc (t.set16 .hl (t.hl + delta))

/-- LD (BC),A (R257). -/
def execLd_mbc_a (s : State) : Out := storeA s.bc 1 2 s

/-- LD B,d8 (R253). -/
def execLd_b_d8 (n : Byte) (s : State) : Out := loadR8Imm .b n 2 s

/-- LD A,(BC) (R255). -/
def execLd_a_mbc (s : State) : Out := loadA s.bc 1 2 s

/-- LD C,d8 (R253). -/
def execLd_c_d8 (n : Byte) (s : State) : Out := loadR8Imm .c n 2 s

/-- LD (DE),A (R258). -/
def execLd_mde_a (s : State) : Out := storeA s.de 1 2 s

/-- LD D,d8 (R253). -/
def execLd_d_d8 (n : Byte) (s : State) : Out := loadR8Imm .d n 2 s

/-- LD A,(DE) (R256). -/
def execLd_a_mde (s : State) : Out := loadA s.de 1 2 s

/-- LD E,d8 (R253). -/
def execLd_e_d8 (n : Byte) (s : State) : Out := loadR8Imm .e n 2 s

/-- LD (HL+),A (R259). -/
def execLd_mhli_a (s : State) : Out := storeAStep 1 2 s

/-- LD H,d8 (R253). -/
def execLd_h_d8 (n : Byte) (s : State) : Out := loadR8Imm .h n 2 s

/-- LD A,(HL+) (R261). -/
def execLd_a_mhli (s : State) : Out := loadAStep 1 2 s

/-- LD L,d8 (R253). -/
def execLd_l_d8 (n : Byte) (s : State) : Out := loadR8Imm .l n 2 s

/-- LD (HL-),A (R260). -/
def execLd_mhld_a (s : State) : Out := storeAStep (-1) 2 s

/-- LD (HL),d8 (R254). -/
def execLd_mhl_d8 (n : Byte) (s : State) : Out := loadR8Imm .mhl n 3 s

/-- LD A,(HL-) (R262). -/
def execLd_a_mhld (s : State) : Out := loadAStep (-1) 2 s

/-- LD A,d8 (R253). -/
def execLd_a_d8 (n : Byte) (s : State) : Out := loadR8Imm .a n 2 s

/-- LD B,B (R250). -/
def execLd_b_b (s : State) : Out := loadR8 .b .b 1 s

/-- LD B,C (R250). -/
def execLd_b_c (s : State) : Out := loadR8 .b .c 1 s

/-- LD B,D (R250). -/
def execLd_b_d (s : State) : Out := loadR8 .b .d 1 s

/-- LD B,E (R250). -/
def execLd_b_e (s : State) : Out := loadR8 .b .e 1 s

/-- LD B,H (R250). -/
def execLd_b_h (s : State) : Out := loadR8 .b .h 1 s

/-- LD B,L (R250). -/
def execLd_b_l (s : State) : Out := loadR8 .b .l 1 s

/-- LD B,(HL) (R251). -/
def execLd_b_mhl (s : State) : Out := loadR8 .b .mhl 2 s

/-- LD B,A (R250). -/
def execLd_b_a (s : State) : Out := loadR8 .b .a 1 s

/-- LD C,B (R250). -/
def execLd_c_b (s : State) : Out := loadR8 .c .b 1 s

/-- LD C,C (R250). -/
def execLd_c_c (s : State) : Out := loadR8 .c .c 1 s

/-- LD C,D (R250). -/
def execLd_c_d (s : State) : Out := loadR8 .c .d 1 s

/-- LD C,E (R250). -/
def execLd_c_e (s : State) : Out := loadR8 .c .e 1 s

/-- LD C,H (R250). -/
def execLd_c_h (s : State) : Out := loadR8 .c .h 1 s

/-- LD C,L (R250). -/
def execLd_c_l (s : State) : Out := loadR8 .c .l 1 s

/-- LD C,(HL) (R251). -/
def execLd_c_mhl (s : State) : Out := loadR8 .c .mhl 2 s

/-- LD C,A (R250). -/
def execLd_c_a (s : State) : Out := loadR8 .c .a 1 s

/-- LD D,B (R250). -/
def execLd_d_b (s : State) : Out := loadR8 .d .b 1 s

/-- LD D,C (R250). -/
def execLd_d_c (s : State) : Out := loadR8 .d .c 1 s

/-- LD D,D (R250). -/
def execLd_d_d (s : State) : Out := loadR8 .d .d 1 s

/-- LD D,E (R250). -/
def execLd_d_e (s : State) : Out := loadR8 .d .e 1 s

/-- LD D,H (R250). -/
def execLd_d_h (s : State) : Out := loadR8 .d .h 1 s

/-- LD D,L (R250). -/
def execLd_d_l (s : State) : Out := loadR8 .d .l 1 s

/-- LD D,(HL) (R251). -/
def execLd_d_mhl (s : State) : Out := loadR8 .d .mhl 2 s

/-- LD D,A (R250). -/
def execLd_d_a (s : State) : Out := loadR8 .d .a 1 s

/-- LD E,B (R250). -/
def execLd_e_b (s : State) : Out := loadR8 .e .b 1 s

/-- LD E,C (R250). -/
def execLd_e_c (s : State) : Out := loadR8 .e .c 1 s

/-- LD E,D (R250). -/
def execLd_e_d (s : State) : Out := loadR8 .e .d 1 s

/-- LD E,E (R250). -/
def execLd_e_e (s : State) : Out := loadR8 .e .e 1 s

/-- LD E,H (R250). -/
def execLd_e_h (s : State) : Out := loadR8 .e .h 1 s

/-- LD E,L (R250). -/
def execLd_e_l (s : State) : Out := loadR8 .e .l 1 s

/-- LD E,(HL) (R251). -/
def execLd_e_mhl (s : State) : Out := loadR8 .e .mhl 2 s

/-- LD E,A (R250). -/
def execLd_e_a (s : State) : Out := loadR8 .e .a 1 s

/-- LD H,B (R250). -/
def execLd_h_b (s : State) : Out := loadR8 .h .b 1 s

/-- LD H,C (R250). -/
def execLd_h_c (s : State) : Out := loadR8 .h .c 1 s

/-- LD H,D (R250). -/
def execLd_h_d (s : State) : Out := loadR8 .h .d 1 s

/-- LD H,E (R250). -/
def execLd_h_e (s : State) : Out := loadR8 .h .e 1 s

/-- LD H,H (R250). -/
def execLd_h_h (s : State) : Out := loadR8 .h .h 1 s

/-- LD H,L (R250). -/
def execLd_h_l (s : State) : Out := loadR8 .h .l 1 s

/-- LD H,(HL) (R251). -/
def execLd_h_mhl (s : State) : Out := loadR8 .h .mhl 2 s

/-- LD H,A (R250). -/
def execLd_h_a (s : State) : Out := loadR8 .h .a 1 s

/-- LD L,B (R250). -/
def execLd_l_b (s : State) : Out := loadR8 .l .b 1 s

/-- LD L,C (R250). -/
def execLd_l_c (s : State) : Out := loadR8 .l .c 1 s

/-- LD L,D (R250). -/
def execLd_l_d (s : State) : Out := loadR8 .l .d 1 s

/-- LD L,E (R250). -/
def execLd_l_e (s : State) : Out := loadR8 .l .e 1 s

/-- LD L,H (R250). -/
def execLd_l_h (s : State) : Out := loadR8 .l .h 1 s

/-- LD L,L (R250). -/
def execLd_l_l (s : State) : Out := loadR8 .l .l 1 s

/-- LD L,(HL) (R251). -/
def execLd_l_mhl (s : State) : Out := loadR8 .l .mhl 2 s

/-- LD L,A (R250). -/
def execLd_l_a (s : State) : Out := loadR8 .l .a 1 s

/-- LD (HL),B (R252). -/
def execLd_mhl_b (s : State) : Out := loadR8 .mhl .b 2 s

/-- LD (HL),C (R252). -/
def execLd_mhl_c (s : State) : Out := loadR8 .mhl .c 2 s

/-- LD (HL),D (R252). -/
def execLd_mhl_d (s : State) : Out := loadR8 .mhl .d 2 s

/-- LD (HL),E (R252). -/
def execLd_mhl_e (s : State) : Out := loadR8 .mhl .e 2 s

/-- LD (HL),H (R252). -/
def execLd_mhl_h (s : State) : Out := loadR8 .mhl .h 2 s

/-- LD (HL),L (R252). -/
def execLd_mhl_l (s : State) : Out := loadR8 .mhl .l 2 s

/-- LD (HL),A (R252). -/
def execLd_mhl_a (s : State) : Out := loadR8 .mhl .a 2 s

/-- LD A,B (R250). -/
def execLd_a_b (s : State) : Out := loadR8 .a .b 1 s

/-- LD A,C (R250). -/
def execLd_a_c (s : State) : Out := loadR8 .a .c 1 s

/-- LD A,D (R250). -/
def execLd_a_d (s : State) : Out := loadR8 .a .d 1 s

/-- LD A,E (R250). -/
def execLd_a_e (s : State) : Out := loadR8 .a .e 1 s

/-- LD A,H (R250). -/
def execLd_a_h (s : State) : Out := loadR8 .a .h 1 s

/-- LD A,L (R250). -/
def execLd_a_l (s : State) : Out := loadR8 .a .l 1 s

/-- LD A,(HL) (R251). -/
def execLd_a_mhl (s : State) : Out := loadR8 .a .mhl 2 s

/-- LD A,A (R250). -/
def execLd_a_a (s : State) : Out := loadR8 .a .a 1 s

/-- LDH (a8),A (R265). -/
def execLdh_ma8_a (n : Byte) (s : State) : Out := storeA (highPage n) 2 3 s

/-- LD (C),A (R267). -/
def execLd_mc_a (s : State) : Out := storeA (highPage (s.get8 .c)) 1 2 s

/-- LD (a16),A (R263). -/
def execLd_ma16_a (nn : Word) (s : State) : Out := storeA nn 3 4 s

/-- LDH A,(a8) (R266). -/
def execLdh_a_ma8 (n : Byte) (s : State) : Out := loadA (highPage n) 2 3 s

/-- LD A,(C) (R268). -/
def execLd_a_mc (s : State) : Out := loadA (highPage (s.get8 .c)) 1 2 s

/-- LD A,(a16) (R264). -/
def execLd_a_ma16 (nn : Word) (s : State) : Out := loadA nn 3 4 s

end Sys2Proof.Machine
end

