-- ==== Sys2Proof/WellFormed.lean ====
section
/-! DEFINITION. When a term of Instr is a complete instruction. Every operand is a byte or a
word, so no operand can be out of range; the one check is that the prefix byte alone is not an
instruction ("the prefix and its secondary byte are one instruction", 48_system R426). -/

namespace Sys2Proof

/-- The row `PREFIX CB` selects the secondary table; without its second byte it is not a
complete instruction (R426). Every other row is. -/
def Instr.wellFormed (i : Instr) : Bool := decide (i ≠ .prefix_cb)

end Sys2Proof
end

