-- ==== Sys2Proof/Decode.lean ====
section
/-! DEFINITION. The decoder (30_encoding R150 to R163), by the fields of R152 and R157, R158; and
after it the encoder, the bytes of R159 row by row. The two are written apart: their agreement is
a statement. -/

namespace Sys2Proof

/-- The r8 selector of a field (R152). -/
def R8.ofField : Nat → R8
  | 0 => .b | 1 => .c | 2 => .d | 3 => .e | 4 => .h | 5 => .l | 6 => .mhl | _ => .a

/-- The rp selector of field p (R153). -/
def Rp.ofField : Nat → Rp
  | 0 => .bc | 1 => .de | 2 => .hl | _ => .sp

/-- The rp2 selector of field p (R153). -/
def Rp2.ofField : Nat → Rp2
  | 0 => .bc | 1 => .de | 2 => .hl | _ => .af

/-- The condition selector of a field (R154). -/
def Cond.ofField : Nat → Cond
  | 0 => .nz | 1 => .z | 2 => .nc | _ => .c

/-- The ALU operation of field y (R157). -/
def AluOp.ofField : Nat → AluOp
  | 0 => .add | 1 => .adc | 2 => .sub | 3 => .sbc | 4 => .and | 5 => .xor | 6 => .or | _ => .cp

/-- The rotate or shift of field y (R158). -/
def RotOp.ofField : Nat → RotOp
  | 0 => .rlc | 1 => .rrc | 2 => .rl | 3 => .rr | 4 => .sla | 5 => .sra | 6 => .swap | _ => .srl

/-- The rows of the block x = 1: LD r8,r8, with HALT in the place of LD (HL),(HL) (R157). -/
def rowLd : R8 → R8 → Instr
  | .b, .b => .ld_b_b
  | .b, .c => .ld_b_c
  | .b, .d => .ld_b_d
  | .b, .e => .ld_b_e
  | .b, .h => .ld_b_h
  | .b, .l => .ld_b_l
  | .b, .mhl => .ld_b_mhl
  | .b, .a => .ld_b_a
  | .c, .b => .ld_c_b
  | .c, .c => .ld_c_c
  | .c, .d => .ld_c_d
  | .c, .e => .ld_c_e
  | .c, .h => .ld_c_h
  | .c, .l => .ld_c_l
  | .c, .mhl => .ld_c_mhl
  | .c, .a => .ld_c_a
  | .d, .b => .ld_d_b
  | .d, .c => .ld_d_c
  | .d, .d => .ld_d_d
  | .d, .e => .ld_d_e
  | .d, .h => .ld_d_h
  | .d, .l => .ld_d_l
  | .d, .mhl => .ld_d_mhl
  | .d, .a => .ld_d_a
  | .e, .b => .ld_e_b
  | .e, .c => .ld_e_c
  | .e, .d => .ld_e_d
  | .e, .e => .ld_e_e
  | .e, .h => .ld_e_h
  | .e, .l => .ld_e_l
  | .e, .mhl => .ld_e_mhl
  | .e, .a => .ld_e_a
  | .h, .b => .ld_h_b
  | .h, .c => .ld_h_c
  | .h, .d => .ld_h_d
  | .h, .e => .ld_h_e
  | .h, .h => .ld_h_h
  | .h, .l => .ld_h_l
  | .h, .mhl => .ld_h_mhl
  | .h, .a => .ld_h_a
  | .l, .b => .ld_l_b
  | .l, .c => .ld_l_c
  | .l, .d => .ld_l_d
  | .l, .e => .ld_l_e
  | .l, .h => .ld_l_h
  | .l, .l => .ld_l_l
  | .l, .mhl => .ld_l_mhl
  | .l, .a => .ld_l_a
  | .mhl, .b => .ld_mhl_b
  | .mhl, .c => .ld_mhl_c
  | .mhl, .d => .ld_mhl_d
  | .mhl, .e => .ld_mhl_e
  | .mhl, .h => .ld_mhl_h
  | .mhl, .l => .ld_mhl_l
  | .mhl, .mhl => .halt
  | .mhl, .a => .ld_mhl_a
  | .a, .b => .ld_a_b
  | .a, .c => .ld_a_c
  | .a, .d => .ld_a_d
  | .a, .e => .ld_a_e
  | .a, .h => .ld_a_h
  | .a, .l => .ld_a_l
  | .a, .mhl => .ld_a_mhl
  | .a, .a => .ld_a_a

/-- The rows LD r8,d8 (R157). -/
def rowLdImm : R8 → Byte → Instr
  | .b, n => .ld_b_d8 n
  | .c, n => .ld_c_d8 n
  | .d, n => .ld_d_d8 n
  | .e, n => .ld_e_d8 n
  | .h, n => .ld_h_d8 n
  | .l, n => .ld_l_d8 n
  | .mhl, n => .ld_mhl_d8 n
  | .a, n => .ld_a_d8 n

/-- The rows INC r8 (R157). -/
def rowInc : R8 → Instr
  | .b => .inc_b
  | .c => .inc_c
  | .d => .inc_d
  | .e => .inc_e
  | .h => .inc_h
  | .l => .inc_l
  | .mhl => .inc_mhl
  | .a => .inc_a

/-- The rows DEC r8 (R157). -/
def rowDec : R8 → Instr
  | .b => .dec_b
  | .c => .dec_c
  | .d => .dec_d
  | .e => .dec_e
  | .h => .dec_h
  | .l => .dec_l
  | .mhl => .dec_mhl
  | .a => .dec_a

/-- The rows of the block x = 2: ALU A,r8 (R157). -/
def rowAlu : AluOp → R8 → Instr
  | .add, .b => .add_a_b
  | .add, .c => .add_a_c
  | .add, .d => .add_a_d
  | .add, .e => .add_a_e
  | .add, .h => .add_a_h
  | .add, .l => .add_a_l
  | .add, .mhl => .add_a_mhl
  | .add, .a => .add_a_a
  | .adc, .b => .adc_a_b
  | .adc, .c => .adc_a_c
  | .adc, .d => .adc_a_d
  | .adc, .e => .adc_a_e
  | .adc, .h => .adc_a_h
  | .adc, .l => .adc_a_l
  | .adc, .mhl => .adc_a_mhl
  | .adc, .a => .adc_a_a
  | .sub, .b => .sub_b
  | .sub, .c => .sub_c
  | .sub, .d => .sub_d
  | .sub, .e => .sub_e
  | .sub, .h => .sub_h
  | .sub, .l => .sub_l
  | .sub, .mhl => .sub_mhl
  | .sub, .a => .sub_a
  | .sbc, .b => .sbc_a_b
  | .sbc, .c => .sbc_a_c
  | .sbc, .d => .sbc_a_d
  | .sbc, .e => .sbc_a_e
  | .sbc, .h => .sbc_a_h
  | .sbc, .l => .sbc_a_l
  | .sbc, .mhl => .sbc_a_mhl
  | .sbc, .a => .sbc_a_a
  | .and, .b => .and_b
  | .and, .c => .and_c
  | .and, .d => .and_d
  | .and, .e => .and_e
  | .and, .h => .and_h
  | .and, .l => .and_l
  | .and, .mhl => .and_mhl
  | .and, .a => .and_a
  | .xor, .b => .xor_b
  | .xor, .c => .xor_c
  | .xor, .d => .xor_d
  | .xor, .e => .xor_e
  | .xor, .h => .xor_h
  | .xor, .l => .xor_l
  | .xor, .mhl => .xor_mhl
  | .xor, .a => .xor_a
  | .or, .b => .or_b
  | .or, .c => .or_c
  | .or, .d => .or_d
  | .or, .e => .or_e
  | .or, .h => .or_h
  | .or, .l => .or_l
  | .or, .mhl => .or_mhl
  | .or, .a => .or_a
  | .cp, .b => .cp_b
  | .cp, .c => .cp_c
  | .cp, .d => .cp_d
  | .cp, .e => .cp_e
  | .cp, .h => .cp_h
  | .cp, .l => .cp_l
  | .cp, .mhl => .cp_mhl
  | .cp, .a => .cp_a

/-- The rows ALU A,d8 (R157). -/
def rowAluImm : AluOp → Byte → Instr
  | .add, n => .add_a_d8 n
  | .adc, n => .adc_a_d8 n
  | .sub, n => .sub_d8 n
  | .sbc, n => .sbc_a_d8 n
  | .and, n => .and_d8 n
  | .xor, n => .xor_d8 n
  | .or, n => .or_d8 n
  | .cp, n => .cp_d8 n

/-- The rows LD rp,d16 (R157). -/
def rowLdRp : Rp → Word → Instr
  | .bc, nn => .ld_bc_d16 nn
  | .de, nn => .ld_de_d16 nn
  | .hl, nn => .ld_hl_d16 nn
  | .sp, nn => .ld_sp_d16 nn

/-- The rows ADD HL,rp (R157). -/
def rowAddHl : Rp → Instr
  | .bc => .add_hl_bc
  | .de => .add_hl_de
  | .hl => .add_hl_hl
  | .sp => .add_hl_sp

/-- The rows INC rp (R157). -/
def rowIncRp : Rp → Instr
  | .bc => .inc_bc
  | .de => .inc_de
  | .hl => .inc_hl
  | .sp => .inc_sp

/-- The rows DEC rp (R157). -/
def rowDecRp : Rp → Instr
  | .bc => .dec_bc
  | .de => .dec_de
  | .hl => .dec_hl
  | .sp => .dec_sp

/-- The rows PUSH rp2 (R157). -/
def rowPush : Rp2 → Instr
  | .bc => .push_bc
  | .de => .push_de
  | .hl => .push_hl
  | .af => .push_af

/-- The rows POP rp2 (R157). -/
def rowPop : Rp2 → Instr
  | .bc => .pop_bc
  | .de => .pop_de
  | .hl => .pop_hl
  | .af => .pop_af

/-- The rows JR cc,e8 (R157). -/
def rowJr : Cond → Byte → Instr
  | .nz, e => .jr_nz_e8 e
  | .z, e => .jr_z_e8 e
  | .nc, e => .jr_nc_e8 e
  | .c, e => .jr_c_e8 e

/-- The rows JP cc,a16 (R157). -/
def rowJp : Cond → Word → Instr
  | .nz, nn => .jp_nz_a16 nn
  | .z, nn => .jp_z_a16 nn
  | .nc, nn => .jp_nc_a16 nn
  | .c, nn => .jp_c_a16 nn

/-- The rows CALL cc,a16 (R157). -/
def rowCall : Cond → Word → Instr
  | .nz, nn => .call_nz_a16 nn
  | .z, nn => .call_z_a16 nn
  | .nc, nn => .call_nc_a16 nn
  | .c, nn => .call_c_a16 nn

/-- The rows RET cc (R157). -/
def rowRet : Cond → Instr
  | .nz => .ret_nz
  | .z => .ret_z
  | .nc => .ret_nc
  | .c => .ret_c

/-- The rows RST y*8 (R157). -/
def rowRst : Fin 8 → Instr
  | 0 => .rst_00
  | 1 => .rst_08
  | 2 => .rst_10
  | 3 => .rst_18
  | 4 => .rst_20
  | 5 => .rst_28
  | 6 => .rst_30
  | 7 => .rst_38

/-- The secondary rows x = 0: ROT r8 (R158). -/
def rowRot : RotOp → R8 → Instr
  | .rlc, .b => .rlc_b
  | .rlc, .c => .rlc_c
  | .rlc, .d => .rlc_d
  | .rlc, .e => .rlc_e
  | .rlc, .h => .rlc_h
  | .rlc, .l => .rlc_l
  | .rlc, .mhl => .rlc_mhl
  | .rlc, .a => .rlc_a
  | .rrc, .b => .rrc_b
  | .rrc, .c => .rrc_c
  | .rrc, .d => .rrc_d
  | .rrc, .e => .rrc_e
  | .rrc, .h => .rrc_h
  | .rrc, .l => .rrc_l
  | .rrc, .mhl => .rrc_mhl
  | .rrc, .a => .rrc_a
  | .rl, .b => .rl_b
  | .rl, .c => .rl_c
  | .rl, .d => .rl_d
  | .rl, .e => .rl_e
  | .rl, .h => .rl_h
  | .rl, .l => .rl_l
  | .rl, .mhl => .rl_mhl
  | .rl, .a => .rl_a
  | .rr, .b => .rr_b
  | .rr, .c => .rr_c
  | .rr, .d => .rr_d
  | .rr, .e => .rr_e
  | .rr, .h => .rr_h
  | .rr, .l => .rr_l
  | .rr, .mhl => .rr_mhl
  | .rr, .a => .rr_a
  | .sla, .b => .sla_b
  | .sla, .c => .sla_c
  | .sla, .d => .sla_d
  | .sla, .e => .sla_e
  | .sla, .h => .sla_h
  | .sla, .l => .sla_l
  | .sla, .mhl => .sla_mhl
  | .sla, .a => .sla_a
  | .sra, .b => .sra_b
  | .sra, .c => .sra_c
  | .sra, .d => .sra_d
  | .sra, .e => .sra_e
  | .sra, .h => .sra_h
  | .sra, .l => .sra_l
  | .sra, .mhl => .sra_mhl
  | .sra, .a => .sra_a
  | .swap, .b => .swap_b
  | .swap, .c => .swap_c
  | .swap, .d => .swap_d
  | .swap, .e => .swap_e
  | .swap, .h => .swap_h
  | .swap, .l => .swap_l
  | .swap, .mhl => .swap_mhl
  | .swap, .a => .swap_a
  | .srl, .b => .srl_b
  | .srl, .c => .srl_c
  | .srl, .d => .srl_d
  | .srl, .e => .srl_e
  | .srl, .h => .srl_h
  | .srl, .l => .srl_l
  | .srl, .mhl => .srl_mhl
  | .srl, .a => .srl_a

/-- The secondary rows x = 1: BIT y,r8 (R158). -/
def rowBit : Fin 8 → R8 → Instr
  | 0, .b => .bit_0_b
  | 0, .c => .bit_0_c
  | 0, .d => .bit_0_d
  | 0, .e => .bit_0_e
  | 0, .h => .bit_0_h
  | 0, .l => .bit_0_l
  | 0, .mhl => .bit_0_mhl
  | 0, .a => .bit_0_a
  | 1, .b => .bit_1_b
  | 1, .c => .bit_1_c
  | 1, .d => .bit_1_d
  | 1, .e => .bit_1_e
  | 1, .h => .bit_1_h
  | 1, .l => .bit_1_l
  | 1, .mhl => .bit_1_mhl
  | 1, .a => .bit_1_a
  | 2, .b => .bit_2_b
  | 2, .c => .bit_2_c
  | 2, .d => .bit_2_d
  | 2, .e => .bit_2_e
  | 2, .h => .bit_2_h
  | 2, .l => .bit_2_l
  | 2, .mhl => .bit_2_mhl
  | 2, .a => .bit_2_a
  | 3, .b => .bit_3_b
  | 3, .c => .bit_3_c
  | 3, .d => .bit_3_d
  | 3, .e => .bit_3_e
  | 3, .h => .bit_3_h
  | 3, .l => .bit_3_l
  | 3, .mhl => .bit_3_mhl
  | 3, .a => .bit_3_a
  | 4, .b => .bit_4_b
  | 4, .c => .bit_4_c
  | 4, .d => .bit_4_d
  | 4, .e => .bit_4_e
  | 4, .h => .bit_4_h
  | 4, .l => .bit_4_l
  | 4, .mhl => .bit_4_mhl
  | 4, .a => .bit_4_a
  | 5, .b => .bit_5_b
  | 5, .c => .bit_5_c
  | 5, .d => .bit_5_d
  | 5, .e => .bit_5_e
  | 5, .h => .bit_5_h
  | 5, .l => .bit_5_l
  | 5, .mhl => .bit_5_mhl
  | 5, .a => .bit_5_a
  | 6, .b => .bit_6_b
  | 6, .c => .bit_6_c
  | 6, .d => .bit_6_d
  | 6, .e => .bit_6_e
  | 6, .h => .bit_6_h
  | 6, .l => .bit_6_l
  | 6, .mhl => .bit_6_mhl
  | 6, .a => .bit_6_a
  | 7, .b => .bit_7_b
  | 7, .c => .bit_7_c
  | 7, .d => .bit_7_d
  | 7, .e => .bit_7_e
  | 7, .h => .bit_7_h
  | 7, .l => .bit_7_l
  | 7, .mhl => .bit_7_mhl
  | 7, .a => .bit_7_a

/-- The secondary rows x = 2: RES y,r8 (R158). -/
def rowRes : Fin 8 → R8 → Instr
  | 0, .b => .res_0_b
  | 0, .c => .res_0_c
  | 0, .d => .res_0_d
  | 0, .e => .res_0_e
  | 0, .h => .res_0_h
  | 0, .l => .res_0_l
  | 0, .mhl => .res_0_mhl
  | 0, .a => .res_0_a
  | 1, .b => .res_1_b
  | 1, .c => .res_1_c
  | 1, .d => .res_1_d
  | 1, .e => .res_1_e
  | 1, .h => .res_1_h
  | 1, .l => .res_1_l
  | 1, .mhl => .res_1_mhl
  | 1, .a => .res_1_a
  | 2, .b => .res_2_b
  | 2, .c => .res_2_c
  | 2, .d => .res_2_d
  | 2, .e => .res_2_e
  | 2, .h => .res_2_h
  | 2, .l => .res_2_l
  | 2, .mhl => .res_2_mhl
  | 2, .a => .res_2_a
  | 3, .b => .res_3_b
  | 3, .c => .res_3_c
  | 3, .d => .res_3_d
  | 3, .e => .res_3_e
  | 3, .h => .res_3_h
  | 3, .l => .res_3_l
  | 3, .mhl => .res_3_mhl
  | 3, .a => .res_3_a
  | 4, .b => .res_4_b
  | 4, .c => .res_4_c
  | 4, .d => .res_4_d
  | 4, .e => .res_4_e
  | 4, .h => .res_4_h
  | 4, .l => .res_4_l
  | 4, .mhl => .res_4_mhl
  | 4, .a => .res_4_a
  | 5, .b => .res_5_b
  | 5, .c => .res_5_c
  | 5, .d => .res_5_d
  | 5, .e => .res_5_e
  | 5, .h => .res_5_h
  | 5, .l => .res_5_l
  | 5, .mhl => .res_5_mhl
  | 5, .a => .res_5_a
  | 6, .b => .res_6_b
  | 6, .c => .res_6_c
  | 6, .d => .res_6_d
  | 6, .e => .res_6_e
  | 6, .h => .res_6_h
  | 6, .l => .res_6_l
  | 6, .mhl => .res_6_mhl
  | 6, .a => .res_6_a
  | 7, .b => .res_7_b
  | 7, .c => .res_7_c
  | 7, .d => .res_7_d
  | 7, .e => .res_7_e
  | 7, .h => .res_7_h
  | 7, .l => .res_7_l
  | 7, .mhl => .res_7_mhl
  | 7, .a => .res_7_a

/-- The secondary rows x = 3: SET y,r8 (R158). -/
def rowSet : Fin 8 → R8 → Instr
  | 0, .b => .set_0_b
  | 0, .c => .set_0_c
  | 0, .d => .set_0_d
  | 0, .e => .set_0_e
  | 0, .h => .set_0_h
  | 0, .l => .set_0_l
  | 0, .mhl => .set_0_mhl
  | 0, .a => .set_0_a
  | 1, .b => .set_1_b
  | 1, .c => .set_1_c
  | 1, .d => .set_1_d
  | 1, .e => .set_1_e
  | 1, .h => .set_1_h
  | 1, .l => .set_1_l
  | 1, .mhl => .set_1_mhl
  | 1, .a => .set_1_a
  | 2, .b => .set_2_b
  | 2, .c => .set_2_c
  | 2, .d => .set_2_d
  | 2, .e => .set_2_e
  | 2, .h => .set_2_h
  | 2, .l => .set_2_l
  | 2, .mhl => .set_2_mhl
  | 2, .a => .set_2_a
  | 3, .b => .set_3_b
  | 3, .c => .set_3_c
  | 3, .d => .set_3_d
  | 3, .e => .set_3_e
  | 3, .h => .set_3_h
  | 3, .l => .set_3_l
  | 3, .mhl => .set_3_mhl
  | 3, .a => .set_3_a
  | 4, .b => .set_4_b
  | 4, .c => .set_4_c
  | 4, .d => .set_4_d
  | 4, .e => .set_4_e
  | 4, .h => .set_4_h
  | 4, .l => .set_4_l
  | 4, .mhl => .set_4_mhl
  | 4, .a => .set_4_a
  | 5, .b => .set_5_b
  | 5, .c => .set_5_c
  | 5, .d => .set_5_d
  | 5, .e => .set_5_e
  | 5, .h => .set_5_h
  | 5, .l => .set_5_l
  | 5, .mhl => .set_5_mhl
  | 5, .a => .set_5_a
  | 6, .b => .set_6_b
  | 6, .c => .set_6_c
  | 6, .d => .set_6_d
  | 6, .e => .set_6_e
  | 6, .h => .set_6_h
  | 6, .l => .set_6_l
  | 6, .mhl => .set_6_mhl
  | 6, .a => .set_6_a
  | 7, .b => .set_7_b
  | 7, .c => .set_7_c
  | 7, .d => .set_7_d
  | 7, .e => .set_7_e
  | 7, .h => .set_7_h
  | 7, .l => .set_7_l
  | 7, .mhl => .set_7_mhl
  | 7, .a => .set_7_a

/-- A bit or vector number from a field of three bits. -/
def bitOfField (y : Nat) : Fin 8 := Fin.ofNat 8 y

/-- The secondary table by the fields of the byte after the prefix (R158). -/
def decodeCb (o : Byte) : Instr :=
  match fieldX o with
  | 0 => rowRot (RotOp.ofField (fieldY o)) (R8.ofField (fieldZ o))
  | 1 => rowBit (bitOfField (fieldY o)) (R8.ofField (fieldZ o))
  | 2 => rowRes (bitOfField (fieldY o)) (R8.ofField (fieldZ o))
  | _ => rowSet (bitOfField (fieldY o)) (R8.ofField (fieldZ o))

/-- The primary rows with x = 0 by y and z (R157); `b1`, `b2` are the bytes at PC+1 and PC+2. -/
def decodeX0 (y z : Nat) (b1 b2 : Byte) : Instr :=
  match z with
  | 0 =>
    match y with
    | 0 => .nop
    | 1 => .ld_ma16_sp (mkWord b2 b1)
    | 2 => .stop
    | 3 => .jr_e8 b1
    | _ => rowJr (Cond.ofField (y - 4)) b1
  | 1 => if y % 2 = 0 then rowLdRp (Rp.ofField (y / 2)) (mkWord b2 b1) else rowAddHl (Rp.ofField (y / 2))
  | 2 =>
    match y with
    | 0 => .ld_mbc_a
    | 1 => .ld_a_mbc
    | 2 => .ld_mde_a
    | 3 => .ld_a_mde
    | 4 => .ld_mhli_a
    | 5 => .ld_a_mhli
    | 6 => .ld_mhld_a
    | _ => .ld_a_mhld
  | 3 => if y % 2 = 0 then rowIncRp (Rp.ofField (y / 2)) else rowDecRp (Rp.ofField (y / 2))
  | 4 => rowInc (R8.ofField y)
  | 5 => rowDec (R8.ofField y)
  | 6 => rowLdImm (R8.ofField y) b1
  | _ =>
    match y with
    | 0 => .rlca
    | 1 => .rrca
    | 2 => .rla
    | 3 => .rra
    | 4 => .daa
    | 5 => .cpl
    | 6 => .scf
    | _ => .ccf

/-- The primary rows with x = 3 by y and z, but for the prefix 0xCB, whose row is the secondary
table's (R157, R193). -/
def decodeX3 (y z : Nat) (b1 b2 : Byte) : Instr :=
  match z with
  | 0 =>
    match y with
    | 4 => .ldh_ma8_a b1
    | 5 => .add_sp_e8 b1
    | 6 => .ldh_a_ma8 b1
    | 7 => .ld_hl_sp_e8 b1
    | _ => rowRet (Cond.ofField y)
  | 1 =>
    match y with
    | 1 => .ret
    | 3 => .reti
    | 5 => .jp_hl
    | 7 => .ld_sp_hl
    | _ => rowPop (Rp2.ofField (y / 2))
  | 2 =>
    match y with
    | 4 => .ld_mc_a
    | 5 => .ld_ma16_a (mkWord b2 b1)
    | 6 => .ld_a_mc
    | 7 => .ld_a_ma16 (mkWord b2 b1)
    | _ => rowJp (Cond.ofField y) (mkWord b2 b1)
  | 3 =>
    match y with
    | 0 => .jp_a16 (mkWord b2 b1)
    | 1 => decodeCb b1
    | 2 => .illegal_d3
    | 3 => .illegal_db
    | 4 => .illegal_e3
    | 5 => .illegal_eb
    | 6 => .di
    | _ => .ei
  | 4 =>
    match y with
    | 4 => .illegal_e4
    | 5 => .illegal_ec
    | 6 => .illegal_f4
    | 7 => .illegal_fc
    | _ => rowCall (Cond.ofField y) (mkWord b2 b1)
  | 5 =>
    match y with
    | 1 => .call_a16 (mkWord b2 b1)
    | 3 => .illegal_dd
    | 5 => .illegal_ed
    | 7 => .illegal_fd
    | _ => rowPush (Rp2.ofField (y / 2))
  | 6 => rowAluImm (AluOp.ofField y) b1
  | _ => rowRst (bitOfField y)

/-- The instruction of an opcode byte and the two bytes after it (R150, R157, R193); a byte the
instruction does not have is ignored. -/
def decodeOp (o b1 b2 : Byte) : Instr :=
  match fieldX o with
  | 0 => decodeX0 (fieldY o) (fieldZ o) b1 b2
  | 1 => rowLd (R8.ofField (fieldY o)) (R8.ofField (fieldZ o))
  | 2 => rowAlu (AluOp.ofField (fieldY o)) (R8.ofField (fieldZ o))
  | _ => decodeX3 (fieldY o) (fieldZ o) b1 b2

/-- The prefix byte (R150). -/
def prefixByte : Byte := 0xCB

/-- The opcode of STOP (R164). -/
def stopByte : Byte := 0x10

/-- The number of bytes after the opcode that a step reads (R151, R162): the immediates, or the
secondary opcode. STOP's second byte is not read (48_system R422) and an illegal byte has none. -/
def operandCount (o : Byte) : Nat :=
  if o ∈ [0x01, 0x11, 0x21, 0x31, 0x08, 0xEA, 0xFA, 0xC3, 0xC2, 0xCA, 0xD2, 0xDA, 0xCD, 0xC4, 0xCC,
      0xD4, 0xDC] then 2
  else if o ∈ [0x06, 0x0E, 0x16, 0x1E, 0x26, 0x2E, 0x36, 0x3E, 0x18, 0x20, 0x28, 0x30, 0x38, 0xC6,
      0xCE, 0xD6, 0xDE, 0xE6, 0xEE, 0xF6, 0xFE, 0xE0, 0xF0, 0xE8, 0xF8, 0xCB] then 1
  else 0

/-- Why a byte list is no instruction. -/
inductive DecodeError where
  /-- There is no byte. -/
  | noBytes
  /-- The opcode byte stands, and an operand byte it has is missing. -/
  | missingOperand (opcode : Byte)
  deriving DecidableEq, Repr

/-- The decoder on a byte list: the instruction and the bytes after it. Every opcode byte is some
row (R161), so only missing bytes are refused. 0x10 takes whatever byte follows it (R164), and
0xCB with nothing after it is the primary table's own row for it (R163, log 7). -/
def decode : List Byte → Except DecodeError (Instr × List Byte)
  | [] => .error .noBytes
  | o :: rest =>
    if o = stopByte then .ok (.stop, rest.drop 1)
    else if o = prefixByte ∧ rest = [] then .ok (.prefix_cb, [])
    else
      match operandCount o, rest with
      | 0, _ => .ok (decodeOp o 0 0, rest)
      | 1, b1 :: more => .ok (decodeOp o b1 0, more)
      | 2, b1 :: b2 :: more => .ok (decodeOp o b1 b2, more)
      | _, _ => .error (.missingOperand o)

/-- The bytes of an instruction, row by row (R151, R159). -/
def encode : Instr → List Byte
  | .ld_bc_d16 nn => [0x01, loByte nn, hiByte nn]
  | .ld_b_d8 n => [0x06, n]
  | .ld_ma16_sp nn => [0x08, loByte nn, hiByte nn]
  | .ld_c_d8 n => [0x0E, n]
  | .ld_de_d16 nn => [0x11, loByte nn, hiByte nn]
  | .ld_d_d8 n => [0x16, n]
  | .jr_e8 e => [0x18, e]
  | .ld_e_d8 n => [0x1E, n]
  | .jr_nz_e8 e => [0x20, e]
  | .ld_hl_d16 nn => [0x21, loByte nn, hiByte nn]
  | .ld_h_d8 n => [0x26, n]
  | .jr_z_e8 e => [0x28, e]
  | .ld_l_d8 n => [0x2E, n]
  | .jr_nc_e8 e => [0x30, e]
  | .ld_sp_d16 nn => [0x31, loByte nn, hiByte nn]
  | .ld_mhl_d8 n => [0x36, n]
  | .jr_c_e8 e => [0x38, e]
  | .ld_a_d8 n => [0x3E, n]
  | .jp_nz_a16 nn => [0xC2, loByte nn, hiByte nn]
  | .jp_a16 nn => [0xC3, loByte nn, hiByte nn]
  | .call_nz_a16 nn => [0xC4, loByte nn, hiByte nn]
  | .add_a_d8 n => [0xC6, n]
  | .jp_z_a16 nn => [0xCA, loByte nn, hiByte nn]
  | .call_z_a16 nn => [0xCC, loByte nn, hiByte nn]
  | .call_a16 nn => [0xCD, loByte nn, hiByte nn]
  | .adc_a_d8 n => [0xCE, n]
  | .jp_nc_a16 nn => [0xD2, loByte nn, hiByte nn]
  | .call_nc_a16 nn => [0xD4, loByte nn, hiByte nn]
  | .sub_d8 n => [0xD6, n]
  | .jp_c_a16 nn => [0xDA, loByte nn, hiByte nn]
  | .call_c_a16 nn => [0xDC, loByte nn, hiByte nn]
  | .sbc_a_d8 n => [0xDE, n]
  | .ldh_ma8_a n => [0xE0, n]
  | .and_d8 n => [0xE6, n]
  | .add_sp_e8 e => [0xE8, e]
  | .ld_ma16_a nn => [0xEA, loByte nn, hiByte nn]
  | .xor_d8 n => [0xEE, n]
  | .ldh_a_ma8 n => [0xF0, n]
  | .or_d8 n => [0xF6, n]
  | .ld_hl_sp_e8 e => [0xF8, e]
  | .ld_a_ma16 nn => [0xFA, loByte nn, hiByte nn]
  | .cp_d8 n => [0xFE, n]
  | .nop => [0x00]
  | .ld_mbc_a => [0x02]
  | .inc_bc => [0x03]
  | .inc_b => [0x04]
  | .dec_b => [0x05]
  | .rlca => [0x07]
  | .add_hl_bc => [0x09]
  | .ld_a_mbc => [0x0A]
  | .dec_bc => [0x0B]
  | .inc_c => [0x0C]
  | .dec_c => [0x0D]
  | .rrca => [0x0F]
  | .stop => [0x10, 0x00]
  | .ld_mde_a => [0x12]
  | .inc_de => [0x13]
  | .inc_d => [0x14]
  | .dec_d => [0x15]
  | .rla => [0x17]
  | .add_hl_de => [0x19]
  | .ld_a_mde => [0x1A]
  | .dec_de => [0x1B]
  | .inc_e => [0x1C]
  | .dec_e => [0x1D]
  | .rra => [0x1F]
  | .ld_mhli_a => [0x22]
  | .inc_hl => [0x23]
  | .inc_h => [0x24]
  | .dec_h => [0x25]
  | .daa => [0x27]
  | .add_hl_hl => [0x29]
  | .ld_a_mhli => [0x2A]
  | .dec_hl => [0x2B]
  | .inc_l => [0x2C]
  | .dec_l => [0x2D]
  | .cpl => [0x2F]
  | .ld_mhld_a => [0x32]
  | .inc_sp => [0x33]
  | .inc_mhl => [0x34]
  | .dec_mhl => [0x35]
  | .scf => [0x37]
  | .add_hl_sp => [0x39]
  | .ld_a_mhld => [0x3A]
  | .dec_sp => [0x3B]
  | .inc_a => [0x3C]
  | .dec_a => [0x3D]
  | .ccf => [0x3F]
  | .ld_b_b => [0x40]
  | .ld_b_c => [0x41]
  | .ld_b_d => [0x42]
  | .ld_b_e => [0x43]
  | .ld_b_h => [0x44]
  | .ld_b_l => [0x45]
  | .ld_b_mhl => [0x46]
  | .ld_b_a => [0x47]
  | .ld_c_b => [0x48]
  | .ld_c_c => [0x49]
  | .ld_c_d => [0x4A]
  | .ld_c_e => [0x4B]
  | .ld_c_h => [0x4C]
  | .ld_c_l => [0x4D]
  | .ld_c_mhl => [0x4E]
  | .ld_c_a => [0x4F]
  | .ld_d_b => [0x50]
  | .ld_d_c => [0x51]
  | .ld_d_d => [0x52]
  | .ld_d_e => [0x53]
  | .ld_d_h => [0x54]
  | .ld_d_l => [0x55]
  | .ld_d_mhl => [0x56]
  | .ld_d_a => [0x57]
  | .ld_e_b => [0x58]
  | .ld_e_c => [0x59]
  | .ld_e_d => [0x5A]
  | .ld_e_e => [0x5B]
  | .ld_e_h => [0x5C]
  | .ld_e_l => [0x5D]
  | .ld_e_mhl => [0x5E]
  | .ld_e_a => [0x5F]
  | .ld_h_b => [0x60]
  | .ld_h_c => [0x61]
  | .ld_h_d => [0x62]
  | .ld_h_e => [0x63]
  | .ld_h_h => [0x64]
  | .ld_h_l => [0x65]
  | .ld_h_mhl => [0x66]
  | .ld_h_a => [0x67]
  | .ld_l_b => [0x68]
  | .ld_l_c => [0x69]
  | .ld_l_d => [0x6A]
  | .ld_l_e => [0x6B]
  | .ld_l_h => [0x6C]
  | .ld_l_l => [0x6D]
  | .ld_l_mhl => [0x6E]
  | .ld_l_a => [0x6F]
  | .ld_mhl_b => [0x70]
  | .ld_mhl_c => [0x71]
  | .ld_mhl_d => [0x72]
  | .ld_mhl_e => [0x73]
  | .ld_mhl_h => [0x74]
  | .ld_mhl_l => [0x75]
  | .halt => [0x76]
  | .ld_mhl_a => [0x77]
  | .ld_a_b => [0x78]
  | .ld_a_c => [0x79]
  | .ld_a_d => [0x7A]
  | .ld_a_e => [0x7B]
  | .ld_a_h => [0x7C]
  | .ld_a_l => [0x7D]
  | .ld_a_mhl => [0x7E]
  | .ld_a_a => [0x7F]
  | .add_a_b => [0x80]
  | .add_a_c => [0x81]
  | .add_a_d => [0x82]
  | .add_a_e => [0x83]
  | .add_a_h => [0x84]
  | .add_a_l => [0x85]
  | .add_a_mhl => [0x86]
  | .add_a_a => [0x87]
  | .adc_a_b => [0x88]
  | .adc_a_c => [0x89]
  | .adc_a_d => [0x8A]
  | .adc_a_e => [0x8B]
  | .adc_a_h => [0x8C]
  | .adc_a_l => [0x8D]
  | .adc_a_mhl => [0x8E]
  | .adc_a_a => [0x8F]
  | .sub_b => [0x90]
  | .sub_c => [0x91]
  | .sub_d => [0x92]
  | .sub_e => [0x93]
  | .sub_h => [0x94]
  | .sub_l => [0x95]
  | .sub_mhl => [0x96]
  | .sub_a => [0x97]
  | .sbc_a_b => [0x98]
  | .sbc_a_c => [0x99]
  | .sbc_a_d => [0x9A]
  | .sbc_a_e => [0x9B]
  | .sbc_a_h => [0x9C]
  | .sbc_a_l => [0x9D]
  | .sbc_a_mhl => [0x9E]
  | .sbc_a_a => [0x9F]
  | .and_b => [0xA0]
  | .and_c => [0xA1]
  | .and_d => [0xA2]
  | .and_e => [0xA3]
  | .and_h => [0xA4]
  | .and_l => [0xA5]
  | .and_mhl => [0xA6]
  | .and_a => [0xA7]
  | .xor_b => [0xA8]
  | .xor_c => [0xA9]
  | .xor_d => [0xAA]
  | .xor_e => [0xAB]
  | .xor_h => [0xAC]
  | .xor_l => [0xAD]
  | .xor_mhl => [0xAE]
  | .xor_a => [0xAF]
  | .or_b => [0xB0]
  | .or_c => [0xB1]
  | .or_d => [0xB2]
  | .or_e => [0xB3]
  | .or_h => [0xB4]
  | .or_l => [0xB5]
  | .or_mhl => [0xB6]
  | .or_a => [0xB7]
  | .cp_b => [0xB8]
  | .cp_c => [0xB9]
  | .cp_d => [0xBA]
  | .cp_e => [0xBB]
  | .cp_h => [0xBC]
  | .cp_l => [0xBD]
  | .cp_mhl => [0xBE]
  | .cp_a => [0xBF]
  | .ret_nz => [0xC0]
  | .pop_bc => [0xC1]
  | .push_bc => [0xC5]
  | .rst_00 => [0xC7]
  | .ret_z => [0xC8]
  | .ret => [0xC9]
  | .prefix_cb => [0xCB]
  | .rst_08 => [0xCF]
  | .ret_nc => [0xD0]
  | .pop_de => [0xD1]
  | .illegal_d3 => [0xD3]
  | .push_de => [0xD5]
  | .rst_10 => [0xD7]
  | .ret_c => [0xD8]
  | .reti => [0xD9]
  | .illegal_db => [0xDB]
  | .illegal_dd => [0xDD]
  | .rst_18 => [0xDF]
  | .pop_hl => [0xE1]
  | .ld_mc_a => [0xE2]
  | .illegal_e3 => [0xE3]
  | .illegal_e4 => [0xE4]
  | .push_hl => [0xE5]
  | .rst_20 => [0xE7]
  | .jp_hl => [0xE9]
  | .illegal_eb => [0xEB]
  | .illegal_ec => [0xEC]
  | .illegal_ed => [0xED]
  | .rst_28 => [0xEF]
  | .pop_af => [0xF1]
  | .ld_a_mc => [0xF2]
  | .di => [0xF3]
  | .illegal_f4 => [0xF4]
  | .push_af => [0xF5]
  | .rst_30 => [0xF7]
  | .ld_sp_hl => [0xF9]
  | .ei => [0xFB]
  | .illegal_fc => [0xFC]
  | .illegal_fd => [0xFD]
  | .rst_38 => [0xFF]
  | .rlc_b => [0xCB, 0x00]
  | .rlc_c => [0xCB, 0x01]
  | .rlc_d => [0xCB, 0x02]
  | .rlc_e => [0xCB, 0x03]
  | .rlc_h => [0xCB, 0x04]
  | .rlc_l => [0xCB, 0x05]
  | .rlc_mhl => [0xCB, 0x06]
  | .rlc_a => [0xCB, 0x07]
  | .rrc_b => [0xCB, 0x08]
  | .rrc_c => [0xCB, 0x09]
  | .rrc_d => [0xCB, 0x0A]
  | .rrc_e => [0xCB, 0x0B]
  | .rrc_h => [0xCB, 0x0C]
  | .rrc_l => [0xCB, 0x0D]
  | .rrc_mhl => [0xCB, 0x0E]
  | .rrc_a => [0xCB, 0x0F]
  | .rl_b => [0xCB, 0x10]
  | .rl_c => [0xCB, 0x11]
  | .rl_d => [0xCB, 0x12]
  | .rl_e => [0xCB, 0x13]
  | .rl_h => [0xCB, 0x14]
  | .rl_l => [0xCB, 0x15]
  | .rl_mhl => [0xCB, 0x16]
  | .rl_a => [0xCB, 0x17]
  | .rr_b => [0xCB, 0x18]
  | .rr_c => [0xCB, 0x19]
  | .rr_d => [0xCB, 0x1A]
  | .rr_e => [0xCB, 0x1B]
  | .rr_h => [0xCB, 0x1C]
  | .rr_l => [0xCB, 0x1D]
  | .rr_mhl => [0xCB, 0x1E]
  | .rr_a => [0xCB, 0x1F]
  | .sla_b => [0xCB, 0x20]
  | .sla_c => [0xCB, 0x21]
  | .sla_d => [0xCB, 0x22]
  | .sla_e => [0xCB, 0x23]
  | .sla_h => [0xCB, 0x24]
  | .sla_l => [0xCB, 0x25]
  | .sla_mhl => [0xCB, 0x26]
  | .sla_a => [0xCB, 0x27]
  | .sra_b => [0xCB, 0x28]
  | .sra_c => [0xCB, 0x29]
  | .sra_d => [0xCB, 0x2A]
  | .sra_e => [0xCB, 0x2B]
  | .sra_h => [0xCB, 0x2C]
  | .sra_l => [0xCB, 0x2D]
  | .sra_mhl => [0xCB, 0x2E]
  | .sra_a => [0xCB, 0x2F]
  | .swap_b => [0xCB, 0x30]
  | .swap_c => [0xCB, 0x31]
  | .swap_d => [0xCB, 0x32]
  | .swap_e => [0xCB, 0x33]
  | .swap_h => [0xCB, 0x34]
  | .swap_l => [0xCB, 0x35]
  | .swap_mhl => [0xCB, 0x36]
  | .swap_a => [0xCB, 0x37]
  | .srl_b => [0xCB, 0x38]
  | .srl_c => [0xCB, 0x39]
  | .srl_d => [0xCB, 0x3A]
  | .srl_e => [0xCB, 0x3B]
  | .srl_h => [0xCB, 0x3C]
  | .srl_l => [0xCB, 0x3D]
  | .srl_mhl => [0xCB, 0x3E]
  | .srl_a => [0xCB, 0x3F]
  | .bit_0_b => [0xCB, 0x40]
  | .bit_0_c => [0xCB, 0x41]
  | .bit_0_d => [0xCB, 0x42]
  | .bit_0_e => [0xCB, 0x43]
  | .bit_0_h => [0xCB, 0x44]
  | .bit_0_l => [0xCB, 0x45]
  | .bit_0_mhl => [0xCB, 0x46]
  | .bit_0_a => [0xCB, 0x47]
  | .bit_1_b => [0xCB, 0x48]
  | .bit_1_c => [0xCB, 0x49]
  | .bit_1_d => [0xCB, 0x4A]
  | .bit_1_e => [0xCB, 0x4B]
  | .bit_1_h => [0xCB, 0x4C]
  | .bit_1_l => [0xCB, 0x4D]
  | .bit_1_mhl => [0xCB, 0x4E]
  | .bit_1_a => [0xCB, 0x4F]
  | .bit_2_b => [0xCB, 0x50]
  | .bit_2_c => [0xCB, 0x51]
  | .bit_2_d => [0xCB, 0x52]
  | .bit_2_e => [0xCB, 0x53]
  | .bit_2_h => [0xCB, 0x54]
  | .bit_2_l => [0xCB, 0x55]
  | .bit_2_mhl => [0xCB, 0x56]
  | .bit_2_a => [0xCB, 0x57]
  | .bit_3_b => [0xCB, 0x58]
  | .bit_3_c => [0xCB, 0x59]
  | .bit_3_d => [0xCB, 0x5A]
  | .bit_3_e => [0xCB, 0x5B]
  | .bit_3_h => [0xCB, 0x5C]
  | .bit_3_l => [0xCB, 0x5D]
  | .bit_3_mhl => [0xCB, 0x5E]
  | .bit_3_a => [0xCB, 0x5F]
  | .bit_4_b => [0xCB, 0x60]
  | .bit_4_c => [0xCB, 0x61]
  | .bit_4_d => [0xCB, 0x62]
  | .bit_4_e => [0xCB, 0x63]
  | .bit_4_h => [0xCB, 0x64]
  | .bit_4_l => [0xCB, 0x65]
  | .bit_4_mhl => [0xCB, 0x66]
  | .bit_4_a => [0xCB, 0x67]
  | .bit_5_b => [0xCB, 0x68]
  | .bit_5_c => [0xCB, 0x69]
  | .bit_5_d => [0xCB, 0x6A]
  | .bit_5_e => [0xCB, 0x6B]
  | .bit_5_h => [0xCB, 0x6C]
  | .bit_5_l => [0xCB, 0x6D]
  | .bit_5_mhl => [0xCB, 0x6E]
  | .bit_5_a => [0xCB, 0x6F]
  | .bit_6_b => [0xCB, 0x70]
  | .bit_6_c => [0xCB, 0x71]
  | .bit_6_d => [0xCB, 0x72]
  | .bit_6_e => [0xCB, 0x73]
  | .bit_6_h => [0xCB, 0x74]
  | .bit_6_l => [0xCB, 0x75]
  | .bit_6_mhl => [0xCB, 0x76]
  | .bit_6_a => [0xCB, 0x77]
  | .bit_7_b => [0xCB, 0x78]
  | .bit_7_c => [0xCB, 0x79]
  | .bit_7_d => [0xCB, 0x7A]
  | .bit_7_e => [0xCB, 0x7B]
  | .bit_7_h => [0xCB, 0x7C]
  | .bit_7_l => [0xCB, 0x7D]
  | .bit_7_mhl => [0xCB, 0x7E]
  | .bit_7_a => [0xCB, 0x7F]
  | .res_0_b => [0xCB, 0x80]
  | .res_0_c => [0xCB, 0x81]
  | .res_0_d => [0xCB, 0x82]
  | .res_0_e => [0xCB, 0x83]
  | .res_0_h => [0xCB, 0x84]
  | .res_0_l => [0xCB, 0x85]
  | .res_0_mhl => [0xCB, 0x86]
  | .res_0_a => [0xCB, 0x87]
  | .res_1_b => [0xCB, 0x88]
  | .res_1_c => [0xCB, 0x89]
  | .res_1_d => [0xCB, 0x8A]
  | .res_1_e => [0xCB, 0x8B]
  | .res_1_h => [0xCB, 0x8C]
  | .res_1_l => [0xCB, 0x8D]
  | .res_1_mhl => [0xCB, 0x8E]
  | .res_1_a => [0xCB, 0x8F]
  | .res_2_b => [0xCB, 0x90]
  | .res_2_c => [0xCB, 0x91]
  | .res_2_d => [0xCB, 0x92]
  | .res_2_e => [0xCB, 0x93]
  | .res_2_h => [0xCB, 0x94]
  | .res_2_l => [0xCB, 0x95]
  | .res_2_mhl => [0xCB, 0x96]
  | .res_2_a => [0xCB, 0x97]
  | .res_3_b => [0xCB, 0x98]
  | .res_3_c => [0xCB, 0x99]
  | .res_3_d => [0xCB, 0x9A]
  | .res_3_e => [0xCB, 0x9B]
  | .res_3_h => [0xCB, 0x9C]
  | .res_3_l => [0xCB, 0x9D]
  | .res_3_mhl => [0xCB, 0x9E]
  | .res_3_a => [0xCB, 0x9F]
  | .res_4_b => [0xCB, 0xA0]
  | .res_4_c => [0xCB, 0xA1]
  | .res_4_d => [0xCB, 0xA2]
  | .res_4_e => [0xCB, 0xA3]
  | .res_4_h => [0xCB, 0xA4]
  | .res_4_l => [0xCB, 0xA5]
  | .res_4_mhl => [0xCB, 0xA6]
  | .res_4_a => [0xCB, 0xA7]
  | .res_5_b => [0xCB, 0xA8]
  | .res_5_c => [0xCB, 0xA9]
  | .res_5_d => [0xCB, 0xAA]
  | .res_5_e => [0xCB, 0xAB]
  | .res_5_h => [0xCB, 0xAC]
  | .res_5_l => [0xCB, 0xAD]
  | .res_5_mhl => [0xCB, 0xAE]
  | .res_5_a => [0xCB, 0xAF]
  | .res_6_b => [0xCB, 0xB0]
  | .res_6_c => [0xCB, 0xB1]
  | .res_6_d => [0xCB, 0xB2]
  | .res_6_e => [0xCB, 0xB3]
  | .res_6_h => [0xCB, 0xB4]
  | .res_6_l => [0xCB, 0xB5]
  | .res_6_mhl => [0xCB, 0xB6]
  | .res_6_a => [0xCB, 0xB7]
  | .res_7_b => [0xCB, 0xB8]
  | .res_7_c => [0xCB, 0xB9]
  | .res_7_d => [0xCB, 0xBA]
  | .res_7_e => [0xCB, 0xBB]
  | .res_7_h => [0xCB, 0xBC]
  | .res_7_l => [0xCB, 0xBD]
  | .res_7_mhl => [0xCB, 0xBE]
  | .res_7_a => [0xCB, 0xBF]
  | .set_0_b => [0xCB, 0xC0]
  | .set_0_c => [0xCB, 0xC1]
  | .set_0_d => [0xCB, 0xC2]
  | .set_0_e => [0xCB, 0xC3]
  | .set_0_h => [0xCB, 0xC4]
  | .set_0_l => [0xCB, 0xC5]
  | .set_0_mhl => [0xCB, 0xC6]
  | .set_0_a => [0xCB, 0xC7]
  | .set_1_b => [0xCB, 0xC8]
  | .set_1_c => [0xCB, 0xC9]
  | .set_1_d => [0xCB, 0xCA]
  | .set_1_e => [0xCB, 0xCB]
  | .set_1_h => [0xCB, 0xCC]
  | .set_1_l => [0xCB, 0xCD]
  | .set_1_mhl => [0xCB, 0xCE]
  | .set_1_a => [0xCB, 0xCF]
  | .set_2_b => [0xCB, 0xD0]
  | .set_2_c => [0xCB, 0xD1]
  | .set_2_d => [0xCB, 0xD2]
  | .set_2_e => [0xCB, 0xD3]
  | .set_2_h => [0xCB, 0xD4]
  | .set_2_l => [0xCB, 0xD5]
  | .set_2_mhl => [0xCB, 0xD6]
  | .set_2_a => [0xCB, 0xD7]
  | .set_3_b => [0xCB, 0xD8]
  | .set_3_c => [0xCB, 0xD9]
  | .set_3_d => [0xCB, 0xDA]
  | .set_3_e => [0xCB, 0xDB]
  | .set_3_h => [0xCB, 0xDC]
  | .set_3_l => [0xCB, 0xDD]
  | .set_3_mhl => [0xCB, 0xDE]
  | .set_3_a => [0xCB, 0xDF]
  | .set_4_b => [0xCB, 0xE0]
  | .set_4_c => [0xCB, 0xE1]
  | .set_4_d => [0xCB, 0xE2]
  | .set_4_e => [0xCB, 0xE3]
  | .set_4_h => [0xCB, 0xE4]
  | .set_4_l => [0xCB, 0xE5]
  | .set_4_mhl => [0xCB, 0xE6]
  | .set_4_a => [0xCB, 0xE7]
  | .set_5_b => [0xCB, 0xE8]
  | .set_5_c => [0xCB, 0xE9]
  | .set_5_d => [0xCB, 0xEA]
  | .set_5_e => [0xCB, 0xEB]
  | .set_5_h => [0xCB, 0xEC]
  | .set_5_l => [0xCB, 0xED]
  | .set_5_mhl => [0xCB, 0xEE]
  | .set_5_a => [0xCB, 0xEF]
  | .set_6_b => [0xCB, 0xF0]
  | .set_6_c => [0xCB, 0xF1]
  | .set_6_d => [0xCB, 0xF2]
  | .set_6_e => [0xCB, 0xF3]
  | .set_6_h => [0xCB, 0xF4]
  | .set_6_l => [0xCB, 0xF5]
  | .set_6_mhl => [0xCB, 0xF6]
  | .set_6_a => [0xCB, 0xF7]
  | .set_7_b => [0xCB, 0xF8]
  | .set_7_c => [0xCB, 0xF9]
  | .set_7_d => [0xCB, 0xFA]
  | .set_7_e => [0xCB, 0xFB]
  | .set_7_h => [0xCB, 0xFC]
  | .set_7_l => [0xCB, 0xFD]
  | .set_7_mhl => [0xCB, 0xFE]
  | .set_7_a => [0xCB, 0xFF]

/-- The bytes of a table word as the hardware stores them, the first at the lowest address. The
table numbers a 16-bit row with the prefix in bits 15 to 8 and the secondary opcode in bits 7 to 0
(R163); every other row has its first byte in bits 7 to 0, and the bytes above it count on from
there. The 8-bit row `PREFIX CB` is the prefix byte alone. DESIGN CHOICE (log 8). -/
def tableBytes (nbits w : Nat) : List Byte :=
  let low := BitVec.ofNat 8 w
  let mid := BitVec.ofNat 8 (w / 0x100)
  if nbits ≤ 8 then if low = prefixByte then [low] else [low, 0, 0]
  else if nbits ≤ 16 ∧ mid = prefixByte then [mid, low]
  else [low, mid, BitVec.ofNat 8 (w / 0x10000)]

/-- The instruction the decoder reads from a table word. -/
def decodeTableWord (nbits w : Nat) : Option Instr :=
  match decode (tableBytes nbits w) with
  | .ok (i, _) => some i
  | .error _ => none

end Sys2Proof
end

