-- ==== Sys2Proof/Machine/Rotate.lean ====
section
/-! DEFINITION. The accumulator rotates and the secondary rotates and shifts (46_rotate_shift_bit
R360 to R372). -/

namespace Sys2Proof.Machine

/-- A rotate or shift of an r8 operand: read, compute, write back even if nothing changed, then
the flags (R364 to R372). -/
def rotR8 (op : RotOp) (r : R8) (cyc : Nat) (s : State) : Out :=
  readR8 r s fun v =>
    writeR8 r (aluShift op v s.flags).1 s fun t =>
      retire 2 cyc (t.set8 .f (aluShift op v s.flags).2)

/-- RLCA (R360). -/
def execRlca (s : State) : Out := accFlags (aluRotA .rlc s.acc s.flags) 1 s

/-- RRCA (R361). -/
def execRrca (s : State) : Out := accFlags (aluRotA .rrc s.acc s.flags) 1 s

/-- RLA (R362). -/
def execRla (s : State) : Out := accFlags (aluRotA .rl s.acc s.flags) 1 s

/-- RRA (R363). -/
def execRra (s : State) : Out := accFlags (aluRotA .rr s.acc s.flags) 1 s

/-- RLC B (R365). -/
def execRlc_b (s : State) : Out := rotR8 .rlc .b 2 s

/-- RLC C (R365). -/
def execRlc_c (s : State) : Out := rotR8 .rlc .c 2 s

/-- RLC D (R365). -/
def execRlc_d (s : State) : Out := rotR8 .rlc .d 2 s

/-- RLC E (R365). -/
def execRlc_e (s : State) : Out := rotR8 .rlc .e 2 s

/-- RLC H (R365). -/
def execRlc_h (s : State) : Out := rotR8 .rlc .h 2 s

/-- RLC L (R365). -/
def execRlc_l (s : State) : Out := rotR8 .rlc .l 2 s

/-- RLC (HL) (R365). -/
def execRlc_mhl (s : State) : Out := rotR8 .rlc .mhl 4 s

/-- RLC A (R365). -/
def execRlc_a (s : State) : Out := rotR8 .rlc .a 2 s

/-- RRC B (R366). -/
def execRrc_b (s : State) : Out := rotR8 .rrc .b 2 s

/-- RRC C (R366). -/
def execRrc_c (s : State) : Out := rotR8 .rrc .c 2 s

/-- RRC D (R366). -/
def execRrc_d (s : State) : Out := rotR8 .rrc .d 2 s

/-- RRC E (R366). -/
def execRrc_e (s : State) : Out := rotR8 .rrc .e 2 s

/-- RRC H (R366). -/
def execRrc_h (s : State) : Out := rotR8 .rrc .h 2 s

/-- RRC L (R366). -/
def execRrc_l (s : State) : Out := rotR8 .rrc .l 2 s

/-- RRC (HL) (R366). -/
def execRrc_mhl (s : State) : Out := rotR8 .rrc .mhl 4 s

/-- RRC A (R366). -/
def execRrc_a (s : State) : Out := rotR8 .rrc .a 2 s

/-- RL B (R367). -/
def execRl_b (s : State) : Out := rotR8 .rl .b 2 s

/-- RL C (R367). -/
def execRl_c (s : State) : Out := rotR8 .rl .c 2 s

/-- RL D (R367). -/
def execRl_d (s : State) : Out := rotR8 .rl .d 2 s

/-- RL E (R367). -/
def execRl_e (s : State) : Out := rotR8 .rl .e 2 s

/-- RL H (R367). -/
def execRl_h (s : State) : Out := rotR8 .rl .h 2 s

/-- RL L (R367). -/
def execRl_l (s : State) : Out := rotR8 .rl .l 2 s

/-- RL (HL) (R367). -/
def execRl_mhl (s : State) : Out := rotR8 .rl .mhl 4 s

/-- RL A (R367). -/
def execRl_a (s : State) : Out := rotR8 .rl .a 2 s

/-- RR B (R368). -/
def execRr_b (s : State) : Out := rotR8 .rr .b 2 s

/-- RR C (R368). -/
def execRr_c (s : State) : Out := rotR8 .rr .c 2 s

/-- RR D (R368). -/
def execRr_d (s : State) : Out := rotR8 .rr .d 2 s

/-- RR E (R368). -/
def execRr_e (s : State) : Out := rotR8 .rr .e 2 s

/-- RR H (R368). -/
def execRr_h (s : State) : Out := rotR8 .rr .h 2 s

/-- RR L (R368). -/
def execRr_l (s : State) : Out := rotR8 .rr .l 2 s

/-- RR (HL) (R368). -/
def execRr_mhl (s : State) : Out := rotR8 .rr .mhl 4 s

/-- RR A (R368). -/
def execRr_a (s : State) : Out := rotR8 .rr .a 2 s

/-- SLA B (R369). -/
def execSla_b (s : State) : Out := rotR8 .sla .b 2 s

/-- SLA C (R369). -/
def execSla_c (s : State) : Out := rotR8 .sla .c 2 s

/-- SLA D (R369). -/
def execSla_d (s : State) : Out := rotR8 .sla .d 2 s

/-- SLA E (R369). -/
def execSla_e (s : State) : Out := rotR8 .sla .e 2 s

/-- SLA H (R369). -/
def execSla_h (s : State) : Out := rotR8 .sla .h 2 s

/-- SLA L (R369). -/
def execSla_l (s : State) : Out := rotR8 .sla .l 2 s

/-- SLA (HL) (R369). -/
def execSla_mhl (s : State) : Out := rotR8 .sla .mhl 4 s

/-- SLA A (R369). -/
def execSla_a (s : State) : Out := rotR8 .sla .a 2 s

/-- SRA B (R370). -/
def execSra_b (s : State) : Out := rotR8 .sra .b 2 s

/-- SRA C (R370). -/
def execSra_c (s : State) : Out := rotR8 .sra .c 2 s

/-- SRA D (R370). -/
def execSra_d (s : State) : Out := rotR8 .sra .d 2 s

/-- SRA E (R370). -/
def execSra_e (s : State) : Out := rotR8 .sra .e 2 s

/-- SRA H (R370). -/
def execSra_h (s : State) : Out := rotR8 .sra .h 2 s

/-- SRA L (R370). -/
def execSra_l (s : State) : Out := rotR8 .sra .l 2 s

/-- SRA (HL) (R370). -/
def execSra_mhl (s : State) : Out := rotR8 .sra .mhl 4 s

/-- SRA A (R370). -/
def execSra_a (s : State) : Out := rotR8 .sra .a 2 s

/-- SWAP B (R371). -/
def execSwap_b (s : State) : Out := rotR8 .swap .b 2 s

/-- SWAP C (R371). -/
def execSwap_c (s : State) : Out := rotR8 .swap .c 2 s

/-- SWAP D (R371). -/
def execSwap_d (s : State) : Out := rotR8 .swap .d 2 s

/-- SWAP E (R371). -/
def execSwap_e (s : State) : Out := rotR8 .swap .e 2 s

/-- SWAP H (R371). -/
def execSwap_h (s : State) : Out := rotR8 .swap .h 2 s

/-- SWAP L (R371). -/
def execSwap_l (s : State) : Out := rotR8 .swap .l 2 s

/-- SWAP (HL) (R371). -/
def execSwap_mhl (s : State) : Out := rotR8 .swap .mhl 4 s

/-- SWAP A (R371). -/
def execSwap_a (s : State) : Out := rotR8 .swap .a 2 s

/-- SRL B (R372). -/
def execSrl_b (s : State) : Out := rotR8 .srl .b 2 s

/-- SRL C (R372). -/
def execSrl_c (s : State) : Out := rotR8 .srl .c 2 s

/-- SRL D (R372). -/
def execSrl_d (s : State) : Out := rotR8 .srl .d 2 s

/-- SRL E (R372). -/
def execSrl_e (s : State) : Out := rotR8 .srl .e 2 s

/-- SRL H (R372). -/
def execSrl_h (s : State) : Out := rotR8 .srl .h 2 s

/-- SRL L (R372). -/
def execSrl_l (s : State) : Out := rotR8 .srl .l 2 s

/-- SRL (HL) (R372). -/
def execSrl_mhl (s : State) : Out := rotR8 .srl .mhl 4 s

/-- SRL A (R372). -/
def execSrl_a (s : State) : Out := rotR8 .srl .a 2 s

end Sys2Proof.Machine
end

