-- ==== Sys2Proof/Machine/Prefix.lean ====
section
/-! DEFINITION. The row PREFIX CB of the primary table (48_system R426): it reads the byte at PC+1 and
executes the secondary row that byte selects. `step` selects the secondary row itself, so this
meaning is reached only through `exec` (log 7). -/

namespace Sys2Proof.Machine

/-- M-cycles of a secondary row that writes its operand back (R159). -/
def secondaryCycles (r : R8) : Nat := if r.reg = none then 4 else 2

/-- M-cycles of a BIT row (R159). -/
def bitCycles (r : R8) : Nat := if r.reg = none then 3 else 2

/-- Execute `secondary[op2]` by the fields of the byte (R158). -/
def secondary (op2 : Byte) (s : State) : Out :=
  let r := R8.ofField (fieldZ op2)
  match fieldX op2 with
  | 0 => rotR8 (RotOp.ofField (fieldY op2)) r (secondaryCycles r) s
  | 1 => bitR8 (bitOfField (fieldY op2)) r (bitCycles r) s
  | 2 => resR8 (bitOfField (fieldY op2)) r (secondaryCycles r) s
  | _ => setR8 (bitOfField (fieldY op2)) r (secondaryCycles r) s

/-- PREFIX CB (R426). -/
def execPrefix_cb (s : State) : Out := fetchByte (s.pc + 1) s fun op2 => secondary op2 s

end Sys2Proof.Machine
end

