-- ==== Sys2Proof/Machine/System.lean ====
section
/-! DEFINITION. The system instructions and the illegal bytes (48_system R420 to R425). STOP and the
eleven illegal bytes raise a fatal error always; the spec gives them no other effect. DEDUCED (log
13, log 16). -/

namespace Sys2Proof.Machine

/-- NOP (R420). -/
def execNop (s : State) : Out := retire 1 1 s

/-- STOP (R422). -/
def execStop (s : State) : Out := raise (.unimplementedOpcodeError 0x10 s.pc .stop)

/-- HALT (R421). -/
def execHalt (s : State) : Out :=
  if s.ime = false ∧ s.pend ≠ 0 then raise (.unimplementedOpcodeError 0x76 s.pc .haltBug)
  else retire 1 1 { s with halted := true }

/-- ILLEGAL_D3 (R425). -/
def execIllegal_d3 (s : State) : Out := raise (.illegalOpcodeError 0xD3 s.pc)

/-- ILLEGAL_DB (R425). -/
def execIllegal_db (s : State) : Out := raise (.illegalOpcodeError 0xDB s.pc)

/-- ILLEGAL_DD (R425). -/
def execIllegal_dd (s : State) : Out := raise (.illegalOpcodeError 0xDD s.pc)

/-- ILLEGAL_E3 (R425). -/
def execIllegal_e3 (s : State) : Out := raise (.illegalOpcodeError 0xE3 s.pc)

/-- ILLEGAL_E4 (R425). -/
def execIllegal_e4 (s : State) : Out := raise (.illegalOpcodeError 0xE4 s.pc)

/-- ILLEGAL_EB (R425). -/
def execIllegal_eb (s : State) : Out := raise (.illegalOpcodeError 0xEB s.pc)

/-- ILLEGAL_EC (R425). -/
def execIllegal_ec (s : State) : Out := raise (.illegalOpcodeError 0xEC s.pc)

/-- ILLEGAL_ED (R425). -/
def execIllegal_ed (s : State) : Out := raise (.illegalOpcodeError 0xED s.pc)

/-- DI (R423). -/
def execDi (s : State) : Out := retire 1 1 { s with ime := false, eiPending := false }

/-- ILLEGAL_F4 (R425). -/
def execIllegal_f4 (s : State) : Out := raise (.illegalOpcodeError 0xF4 s.pc)

/-- EI (R424). -/
def execEi (s : State) : Out := retire 1 1 (if s.ime then s else { s with eiPending := true })

/-- ILLEGAL_FC (R425). -/
def execIllegal_fc (s : State) : Out := raise (.illegalOpcodeError 0xFC s.pc)

/-- ILLEGAL_FD (R425). -/
def execIllegal_fd (s : State) : Out := raise (.illegalOpcodeError 0xFD s.pc)

end Sys2Proof.Machine
end

