-- ==== Sys2Proof/Machine/Engine.lean ====
section
/-! DEFINITION. The step algorithm of 40_engine R192 over any table of handlers: the host's
boundary, the halt and interrupt checks, the operand fetches, the handler, the EI promotion and
the latch. `step` is `stepWith exec`. -/

namespace Sys2Proof.Machine

/-- The operand bytes of the latched opcode, fetched at PC+1 and then PC+2 (R193, R194, R204).
A byte the instruction does not have is not read and stands as zero. -/
def fetchOperands (n : Nat) (s : State) (k : Byte → Byte → Out) : Out :=
  match n with
  | 0 => k 0 0
  | 1 => fetchByte (s.pc + 1) s fun b1 => k b1 0
  | _ => fetchByte (s.pc + 1) s fun b1 => fetchByte (s.pc + 2) s fun b2 => k b1 b2

/-- What ends an instruction step after its handler: the promotion, then the latch (R192). -/
def finish (promote : Bool) (o : Out) : Out :=
  match o with
  | .next t => latch (t.promoted promote)
  | .fault r => .fault r
  | .refused r => .refused r

/-- An instruction step: the latched instruction executes (R191, R192). -/
def instructionStep (ex : Instr → State → Out) (s : State) : Out :=
  fetchOperands (operandCount s.ir) s fun b1 b2 =>
    finish s.eiPending (ex (decodeOp s.ir b1 b2) s)

/-- A step that is not halted, or has just woken: a dispatch when IME is set and a line is
pending, else an instruction step (R461). -/
def awakeStep (ex : Instr → State → Out) (s : State) : Out :=
  if s.ime = true ∧ s.pend ≠ 0 then dispatch s else instructionStep ex s

/-- The step once the host has written and no error is recorded (R192): idle while halted with
nothing pending, waking otherwise (R467). -/
def boundaryStep (ex : Instr → State → Out) (s : State) : Out :=
  if s.halted = true ∧ s.pend = 0 then .next { s with cycles := Config.idleCycles }
  else awakeStep ex { s with halted := false }

/-- The step (R192). A core with a recorded error has no step (R54). -/
def stepWith (ex : Instr → State → Out) (s : State) : Out :=
  match s.error with
  | some e => .fault (.terminal e)
  | none => boundaryStep ex s.hostPhase

/-- Put a byte into whatever backs the address `a`, past the write rules of the bus: this is the
loader or the test placing a program, not an instruction. An unmapped address takes nothing. -/
def State.placeByte (s : State) (a : Word) (v : Byte) : State :=
  match regionOf a with
  | .romFixed => { s with rom := s.rom.write a.toNat v }
  | .romSwitch => { s with rom := s.rom.write (s.romSwitchOffset a) v }
  | .cartRam =>
    match s.cartRamIndex a with
    | some i => { s with cartRam := s.cartRam.write i v }
    | none => s
  | .videoRam | .workRam | .oam | .io | .highRam | .ie => { s with mem := s.mem.write a.toNat v }
  | .echo | .unusable => s

/-- The bytes from address `a` up, wrapping (R203). -/
def State.placeBytes (s : State) (a : Word) : List Byte → State
  | [] => s
  | v :: vs => (s.placeByte a v).placeBytes (a + 1) vs

/-- The instruction whose table word is `w` at PC, its opcode latched (R50), and zero bytes up to
the longest instruction. -/
def State.placeTableWord (s : State) (nbits w : Nat) : State :=
  let bytes := (tableBytes nbits w ++ [0, 0]).take 3
  { s.placeBytes s.pc bytes with ir := bytes.headD 0 }

end Sys2Proof.Machine
end

