-- ==== Sys2Proof/Machine/Step.lean ====
section
/-! DEFINITION. The step of the core, and the placing of one instruction for the host's
questions. Everything either does stands in Machine/Engine.lean. -/

namespace Sys2Proof.Machine

/-- One call of `step` (R190, R192). -/
def step (s : State) : Host.Outcome State Fault Refusal := stepWith exec s

/-- `s` with the instruction of a table word stored where the next step fetches it: at PC, with
its first byte latched in IR (log 8, log 9). -/
def State.withFetchWord (s : State) (nbits w : Nat) : State := s.placeTableWord nbits w

end Sys2Proof.Machine
end

