-- ==== Sys2Proof/Machine/Construct.lean ====
section
/-! DEFINITION. Construction (70_reset_and_hazards R500, R501): the header checks in their order
(20_memory R120, 60_exceptions R451) and the power-on state over any cartridge and any initial
memory. -/

namespace Sys2Proof.Machine

/-- A controller tag as the loader gives it; every tag but two is unsupported (R120). -/
inductive ControllerTag where
  | romOnly
  | mbc1
  | other (tag : Nat)
  deriving DecidableEq, Repr

/-- The construction parameters (R8). Initial memory is given as the writes that produce it over
nothing; what is not given reads as the unlisted byte, and a pair that names no writable byte is dropped.
DESIGN CHOICE (log 15). -/
structure Launch where
  controller : ControllerTag
  romBankCount : Nat
  ramSize : Nat
  romImage : List Byte
  initialMem : List Host.Cell
  initialCartRam : List Host.Cell
  /-- The host's between-step actions (R8, R505): the writes it makes at each step boundary, the one
  before the first step at the head. DESIGN CHOICE (log 3). -/
  hostInput : List (List HostWrite)
  deriving DecidableEq, Repr

/-- The declared bank count is allowed for the controller (R120). -/
def Launch.bankCountOk (p : Launch) : Bool :=
  match p.controller with
  | .romOnly => decide (p.romBankCount = 2)
  | .mbc1 => decide (p.romBankCount ∈ [2, 4, 8, 16, 32])
  | .other _ => false

/-- The declared RAM size is allowed for the controller (R120). -/
def Launch.ramSizeOk (p : Launch) : Bool :=
  match p.controller with
  | .romOnly => decide (p.ramSize = 0)
  | .mbc1 => decide (p.ramSize ∈ [0, 0x800, 0x2000, 0x8000])
  | .other _ => false

/-- The header checks: the first that fails names the reason (R451). -/
def Launch.check (p : Launch) : Option ConfigReason :=
  match p.controller with
  | .other _ => some .unsupportedController
  | .romOnly | .mbc1 =>
    if p.bankCountOk = false then some .badBankCount
    else if p.ramSizeOk = false then some .badRamSize
    else if p.romImage.length ≠ p.romBankCount * Config.bankSize then some .imageLengthMismatch
    else none

/-- An address of the plain-storage regions (R106). -/
def storageAddress (a : Nat) : Bool :=
  decide (a < 0x10000) && (regionOf (BitVec.ofNat 16 a)).isStorage

/-- The bank controller at construction (R64). -/
def ControllerTag.powerOn : ControllerTag → BankController
  | .romOnly => .romOnly
  | .mbc1 => .mbc1 Mbc1.powerOn
  | .other _ => .romOnly

/-- The core built from parameters that passed the checks, with IR still to latch (R501). -/
def Launch.unlatched (p : Launch) : State :=
  { State.reset with
    bank := p.controller.powerOn
    mem := Memory.ofCells (p.initialMem.filter fun c => storageAddress c.1)
    cartRam := Memory.ofCells (p.initialCartRam.filter fun c => decide (c.1 < p.ramSize))
    rom := Memory.ofBytes 0 p.romImage
    romBankCount := p.romBankCount
    ramSize := p.ramSize
    hostInput := p.hostInput }

/-- Construction (R501): ConfigurationError, or the core with the byte at 0x0100 latched (R61). -/
def State.construct (p : Launch) : Except FatalError State :=
  match p.check with
  | some r => .error (.configurationError r)
  | none => .ok { p.unlatched with ir := (p.unlatched.busRead Config.entryPoint).getD Config.unlisted }

end Sys2Proof.Machine
end

