-- ==== Sys2Proof/Machine/Run.lean ====
section
/-! DEFINITION. A run and its end (70_reset_and_hazards R505, R506, R522): the end markers, the run
of at most a number of steps with the way it ends, its final state and its M-cycles, and the hang. -/

namespace Sys2Proof.Machine

/-- The latched instruction is a jump to its own address (R506 (i)). -/
def State.selfJump (s : State) : Bool :=
  (s.ir == 0x18 && s.busRead (s.pc + 1) == some 0xFE) ||
  (s.ir == 0xC3 && s.busRead (s.pc + 1) == some (loByte s.pc) &&
    s.busRead (s.pc + 2) == some (hiByte s.pc))

/-- The end markers of a run (R506): a latched self-jump of a core that is not halted, or a halted
core with no line enabled. -/
def State.endMarker (s : State) : Bool :=
  s.error.isNone &&
    ((!s.halted && s.selfJump) || (s.halted && (s.ie &&& 0x1F == 0)))

/-- How a run ends (R506). -/
inductive RunEnd where
  /-- Clause (a): a step returned a fatal error. -/
  | fault (r : Fault)
  /-- Clause (b): the state at a step boundary is an end marker. -/
  | marker
  /-- Clause (c): the Driver stopped calling after the number of steps named. -/
  | stopped
  /-- A step was refused; no instruction of the model is, so no run ends so. -/
  | refused (r : Refusal)
  deriving DecidableEq, Repr

/-- A run that has ended: how, the state at the last step boundary, the steps it took to reach that
boundary, and the sum of the M-cycles they returned (R506, R522). -/
structure RunResult where
  ending : RunEnd
  state : State
  steps : Nat
  cycles : Nat
  deriving DecidableEq, Repr

/-- The final state: that of an end marker or of the named bound. A fault is never one (R455,
R506). -/
def RunResult.final (r : RunResult) : Option State :=
  match r.ending with
  | .marker | .stopped => some r.state
  | .fault _ | .refused _ => none

/-- The run that ends at the boundary `s` without a step. -/
def State.endsAs (s : State) (e : RunEnd) : RunResult :=
  { ending := e, state := s, steps := 0, cycles := 0 }

/-- The run `r` preceded by one step that returned `cyc` M-cycles. -/
def RunResult.afterStep (cyc : Nat) (r : RunResult) : RunResult :=
  { r with steps := r.steps + 1, cycles := cyc + r.cycles }

/-- The run from `s` whose Driver calls `step` at most `bound` times (R506): it ends at the first end
marker or fault, and at the bound where neither came. A boundary is looked at before the host's
writes at it. DESIGN CHOICE (log 17). -/
def State.run (s : State) : Nat → RunResult
  | 0 => s.endsAs (if s.endMarker then .marker else .stopped)
  | bound + 1 =>
    if s.endMarker then s.endsAs .marker
    else
      match step s with
      | .next t => (t.run bound).afterStep t.cycles
      | .fault r => s.endsAs (.fault r)
      | .refused r => s.endsAs (.refused r)

/-- The state `s` with the writes `host k` to come at its boundary `k`, for the next `n` boundaries. -/
def State.scheduled (s : State) (host : Nat → List HostWrite) (n : Nat) : State :=
  { s with hostInput := (List.range n).map host }

/-- A hang (R506) of the run from `s` whose host writes `host k` at boundary `k`, without end (R114,
R505): no number of steps, each with the host's writes up to it, brings the run to an end marker or
a fault, so that only its Driver can stop it. -/
def State.HangsUnder (s : State) (host : Nat → List HostWrite) : Prop :=
  ∀ bound, ((s.scheduled host bound).run bound).ending = .stopped

/-- A hang under the writes the state itself schedules, after which the host is silent. -/
def State.Hangs (s : State) : Prop := s.HangsUnder fun k => s.hostInput.getD k []

/-- The total elapsed M-cycles of a run that has a final state: the sum of the counts its steps
return (R522). -/
def totalCycles (bound : Nat) (s : State) : Option Nat :=
  (s.run bound).final.map fun _ => (s.run bound).cycles

/-- The run of a launched core (R505), or the error of its construction (R451). -/
def Launch.run (p : Launch) (bound : Nat) : Except FatalError RunResult :=
  (State.construct p).map fun s => s.run bound

end Sys2Proof.Machine
end

