-- ==== Sys2Proof/Safety.lean ====
section
/-! DEFINITION. The terms the claims are stated in: what an outcome ensures, what an instruction
leaves unchanged, what one accepted store changes, the invariants of the state, and the bytes a
step reads its instruction from. -/

namespace Sys2Proof

/-- The number of an r8 selector (R152). -/
def R8.number : R8 → Byte
  | .b => 0 | .c => 1 | .d => 2 | .e => 3 | .h => 4 | .l => 5 | .mhl => 6 | .a => 7

/-- The number of an rp selector (R153). -/
def Rp.number : Rp → Byte
  | .bc => 0 | .de => 1 | .hl => 2 | .sp => 3

/-- The number of an rp2 selector (R153). -/
def Rp2.number : Rp2 → Byte
  | .bc => 0 | .de => 1 | .hl => 2 | .af => 3

/-- The number of a condition selector (R154). -/
def Cond.number : Cond → Byte
  | .nz => 0 | .z => 1 | .nc => 2 | .c => 3

/-- The number of an ALU operation in field y (R157). -/
def AluOp.number : AluOp → Byte
  | .add => 0 | .adc => 1 | .sub => 2 | .sbc => 3 | .and => 4 | .xor => 5 | .or => 6 | .cp => 7

/-- The number of a rotate or shift in field y (R158). -/
def RotOp.number : RotOp → Byte
  | .rlc => 0 | .rrc => 1 | .rl => 2 | .rr => 3 | .sla => 4 | .sra => 5 | .swap => 6 | .srl => 7

namespace Machine

/-- If the outcome is a next state, that state satisfies `P`. -/
def Ensures (P : State → Prop) : Out → Prop
  | .next t => P t
  | .fault _ => True
  | .refused _ => True

/-- The engine control state, the error record and the host's schedule are unchanged. -/
structure SameControl (s t : State) : Prop where
  ir : t.ir = s.ir
  ime : t.ime = s.ime
  eiPending : t.eiPending = s.eiPending
  halted : t.halted = s.halted
  error : t.error = s.error
  hostInput : t.hostInput = s.hostInput

/-- Nothing was stored: every address reads as before, and so does every backing byte, in the
selected bank or not; the bank controller and the cartridge are unchanged. -/
structure SameMemory (s t : State) : Prop where
  busRead : ∀ a, t.busRead a = s.busRead a
  bank : t.bank = s.bank
  mem : ∀ k, t.mem.read k = s.mem.read k
  cartRam : ∀ i, t.cartRam.read i = s.cartRam.read i
  rom : ∀ k, t.rom.read k = s.rom.read k
  romBankCount : t.romBankCount = s.romBankCount
  ramSize : t.ramSize = s.ramSize

/-- Every 8-bit register but those listed is unchanged. -/
def KeepsRegs (changed : List Reg8) (s t : State) : Prop :=
  ∀ q, q ∉ changed → t.get8 q = s.get8 q

/-- Every 16-bit register but those listed, SP and PC among them, is unchanged. -/
def KeepsWords (changed : List Reg16) (s t : State) : Prop :=
  ∀ q, q ∉ changed → t.get16 q = s.get16 q

/-- Only the listed 8-bit registers, PC and the cycle output may differ. -/
structure OnlyRegs (changed : List Reg8) (s t : State) : Prop where
  regs : KeepsRegs changed s t
  sp : t.sp = s.sp
  control : SameControl s t
  memory : SameMemory s t

/-- Only the listed 16-bit registers and the cycle output may differ. -/
structure OnlyWords (changed : List Reg16) (s t : State) : Prop where
  words : KeepsWords changed s t
  control : SameControl s t
  memory : SameMemory s t

/-- `exec` answers a next state, and that state satisfies `P`. -/
def Runs (i : Instr) (s : State) (P : State → Prop) : Prop := ∃ t, exec i s = .next t ∧ P t

/-- `exec` answers the fatal error `e`. -/
def Fails (i : Instr) (s : State) (e : FatalError) : Prop := exec i s = .fault (.fatal e)

/-- The handler ended without a target: PC moved by the length, the row's count returned. -/
def Advanced (len : Word) (cyc : Nat) (s t : State) : Prop := t.pc = s.pc + len ∧ t.cycles = cyc

/-- What the bank controller is after a write of `v` to `a` (R99 to R103). -/
def bankAfter (b : BankController) (a : Word) (v : Byte) : BankController :=
  match b with
  | .romOnly => .romOnly
  | .mbc1 r =>
    if a.toNat < 0x2000 then .mbc1 { r with ramEn := decide (v.toNat % 16 = 0xA) }
    else if a.toNat < 0x4000 then
      .mbc1 { r with bank1 := BitVec.ofNat 5 (max 1 (v.toNat % 32)) }
    else if a.toNat < 0x6000 then .mbc1 { r with bank2 := BitVec.ofNat 2 v.toNat }
    else if a.toNat < 0x8000 then .mbc1 { r with mode := decide (v.toNat % 2 = 1) }
    else .mbc1 r

/-- Exactly one store of `v` at the address `a` took place: an address outside the control
regions reads as `v`, every other address reads as before, no backing byte but the one behind `a`
changed; a store to a control address changed the bank controller alone, and only the two banked
windows may read otherwise (R93). -/
structure Stored (a : Word) (v : Byte) (s t : State) : Prop where
  reads : 0x8000 ≤ a.toNat → t.busRead a = some v
  outside : 0x8000 ≤ a.toNat → ∀ b, b ≠ a → t.busRead b = s.busRead b
  control : a.toNat < 0x8000 → ∀ b : Word, ¬(0x4000 ≤ b.toNat ∧ b.toNat < 0x8000) →
    ¬(0xA000 ≤ b.toNat ∧ b.toNat < 0xC000) → t.busRead b = s.busRead b
  bank : t.bank = bankAfter s.bank a v
  mem : ∀ k, t.mem.read k =
    if (regionOf a).isStorage = true ∧ k = a.toNat then v else s.mem.read k
  cartRam : ∀ i, t.cartRam.read i =
    if regionOf a = .cartRam ∧ s.cartRamIndex a = some i then v else s.cartRam.read i
  rom : ∀ k, t.rom.read k = s.rom.read k
  romBankCount : t.romBankCount = s.romBankCount
  ramSize : t.ramSize = s.ramSize

/-- The byte a read or write of `a` in 0xA000-0xBFFF reaches in cartridge RAM is `i` (R105). -/
def State.CartRamByte (s : State) (a : Word) (i : Nat) : Prop :=
  ∃ r, s.bank = .mbc1 r ∧ r.ramEn = true ∧ 0 < s.ramSize ∧
    a.toNat - 0xA000 < min s.ramSize 0x2000 ∧
    i = (if r.mode = true then r.bank2.toNat &&& (max 1 (s.ramSize / 0x2000) - 1) else 0) * 0x2000 +
      (a.toNat - 0xA000)

/-- A write to `a` has a legal target (R93, R94): below 0x8000 an MBC1 controller, in
0xA000-0xBFFF a reachable byte of cartridge RAM, elsewhere a recognized region. -/
def State.Writable (s : State) (a : Word) : Prop :=
  if a.toNat < 0x8000 then s.bank ≠ .romOnly
  else if 0xA000 ≤ a.toNat ∧ a.toNat < 0xC000 then ∃ i, s.CartRamByte a i
  else ¬(0xE000 ≤ a.toNat ∧ a.toNat < 0xFE00) ∧ ¬(0xFEA0 ≤ a.toNat ∧ a.toNat < 0xFF00)

/-- An access to `a` has no byte to reach, and faults, whatever would have followed it: a read or a
fetch with its own kind, a write as a write (R94). -/
structure State.NoAccess (s : State) (a : Word) : Prop where
  reads : s.busRead a = none
  writes : ∀ v, s.busWrite a v = none
  readFault : ∀ kind k, readByte kind a s k = .fault (.fatal (.unmappedAddressError a kind))
  writeFault : ∀ v k, storeByte a v s k = .fault (.fatal (.unmappedAddressError a .write))

/-- The flag byte of `t` has these four condition bits (R44). -/
def FlagsAre (z n h c : Bool) (t : State) : Prop := t.get8 .f = flagByte z n h c

/-- The bytes `bs` are what a step of `s` reads its instruction from: the latched opcode and the
operand bytes at PC+1 and PC+2 (R193, R194). -/
def State.Fetched (s : State) (bs : List Byte) : Prop :=
  match bs with
  | [o] => o = s.ir
  | [o, b1] => o = s.ir ∧ s.busRead (s.pc + 1) = some b1
  | [o, b1, b2] => o = s.ir ∧ s.busRead (s.pc + 1) = some b1 ∧ s.busRead (s.pc + 2) = some b2
  | _ => False

/-- The step of `s`, after the host's writes, executes the latched instruction: no error is
recorded, the core is not idle, and no interrupt is dispatched (R192). -/
structure State.Executes (s : State) : Prop where
  error : s.error = none
  awake : s.hostPhase.halted = true → s.hostPhase.pend ≠ 0
  noDispatch : s.hostPhase.ime = true → s.hostPhase.pend = 0

/-- The step of `s`, after the host's writes, dispatches an interrupt (R461, R467). -/
structure State.Dispatches (s : State) : Prop where
  error : s.error = none
  ime : s.hostPhase.ime = true
  pending : s.hostPhase.pend ≠ 0

/-- The state the latched instruction executes in: the host has written, and the core is awake
(R114, R192, R467). -/
def State.awake (s : State) : State := { s.hostPhase with halted := false }

/-- The step of `s` fails with the fatal error `e` (R455). -/
def StepFails (s : State) (e : FatalError) : Prop := step s = .fault (.fatal e)

/-- The bytes of the instruction `i` are `bs`, and what a step does around it: a fetch of an
operand byte that is unmapped fails the step, PC+1 before PC+2; after the instruction a pending EI
that is still pending sets IME, and the byte at the new PC is latched; where that latch fetch is
unmapped the step fails (R192, R194, R198). -/
structure Coded (i : Instr) (bs : List Byte) : Prop where
  bytes : encode i = bs
  first : 2 ≤ bs.length → ∀ s : State, s.Executes → bs.head? = some s.ir →
    s.awake.busRead (s.pc + 1) = none → StepFails s (.unmappedAddressError (s.pc + 1) .fetch)
  second : 3 ≤ bs.length → ∀ (s : State) (b : Byte), s.Executes → bs.head? = some s.ir →
    s.awake.busRead (s.pc + 1) = some b → s.awake.busRead (s.pc + 2) = none →
    StepFails s (.unmappedAddressError (s.pc + 2) .fetch)
  steps : ∀ (s t : State) (b : Byte), s.Executes → s.awake.Fetched bs →
    exec i s.awake = .next t → t.busRead t.pc = some b →
    step s = .next { t with
      ir := b
      ime := t.ime || (s.eiPending && t.eiPending)
      eiPending := t.eiPending && !s.eiPending }
  latch : ∀ s t : State, s.Executes → s.awake.Fetched bs → exec i s.awake = .next t →
    t.busRead t.pc = none → StepFails s (.unmappedAddressError t.pc .fetch)

/-- The condition test (R201) on the flag bits of F: Z is bit 7, C is bit 4 (R44, R154). -/
def State.Meets (s : State) (cc : Cond) : Prop :=
  match cc with
  | .nz => (s.get8 .f).getLsbD 7 = false
  | .z => (s.get8 .f).getLsbD 7 = true
  | .nc => (s.get8 .f).getLsbD 4 = false
  | .c => (s.get8 .f).getLsbD 4 = true

/-- Bits 3 to 0 of the stored F are zero (R44, R45). -/
def State.FlagNibbleZero (s : State) : Prop := s.af &&& 0x000F = 0

/-- The invariants of the interrupt state (R469). -/
def State.InterruptInv (s : State) : Prop :=
  (s.eiPending = true → s.ime = false) ∧ (s.halted = true → s.eiPending = false)

/-- BANK1 is never 0 (R55, R101). -/
def State.Bank1Legal (s : State) : Prop := ∀ r, s.bank = .mbc1 r → r.bank1 ≠ 0

/-- Every store is in canonical form and lists only bytes its region has (R56, R91). -/
structure State.MemoryInv (s : State) : Prop where
  memWf : s.mem.wf = true
  memWithin : s.mem.within storageAddress = true
  cartWf : s.cartRam.wf = true
  cartWithin : s.cartRam.within (fun i => decide (i < s.ramSize)) = true
  romWf : s.rom.wf = true
  romWithin : s.rom.within (fun k => decide (k < s.romBankCount * Config.bankSize)) = true

/-- The cartridge is one construction accepts (R120). -/
def State.CartridgeLegal (s : State) : Prop :=
  (s.bank = .romOnly ∧ s.romBankCount = 2 ∧ s.ramSize = 0) ∨
  ((∃ r, s.bank = .mbc1 r) ∧ s.romBankCount ∈ [2, 4, 8, 16, 32] ∧
    s.ramSize ∈ [0, 0x800, 0x2000, 0x8000])

/-- The invariants of the registers, the controller and the stores: none of them is a rule about
one instruction, and every step keeps them all. -/
structure State.Inv (s : State) : Prop where
  flags : s.FlagNibbleZero
  bank1 : s.Bank1Legal
  memory : s.MemoryInv
  cartridge : s.CartridgeLegal

/-- What a core holds after a call of `step`: the next state, or after a fatal error the state the
failing step began in, with the record in ERROR (R455). A core with no step stays as it is. -/
def settled (s : State) : State :=
  match step s with
  | .next t => t
  | .fault (.fatal e) => s.hostPhase.recordError e
  | .fault (.terminal _) => s
  | .refused _ => s

/-- An instruction that reads one data byte at `a`: where it is mapped the instruction runs, with
`post` of the byte read; elsewhere it faults (R94). -/
def LoadForm (i : Instr) (a : Word) (s : State) (post : Byte → State → Prop) : Prop :=
  (∀ v, s.busRead a = some v → Runs i s (post v)) ∧
  (s.busRead a = none → Fails i s (.unmappedAddressError a .read))

/-- An instruction that stores `v` at `a`: where the write has a legal target the instruction
runs, with that one store, no register but those listed and no control state changed, and `post`;
elsewhere it faults (R93, R94). -/
def StoreForm (i : Instr) (a : Word) (v : Byte) (s : State) (changed : List Reg8)
    (post : State → Prop) : Prop :=
  (s.Writable a → Runs i s fun t =>
    Stored a v s t ∧ KeepsRegs changed s t ∧ t.sp = s.sp ∧ SameControl s t ∧ post t) ∧
  (¬s.Writable a → Fails i s (.unmappedAddressError a .write))

/-- Two bytes stored, first `v` at `a` and then `w` at `b`: `u` is any state with the memory
between the two stores. -/
def StoredTwo (a : Word) (v : Byte) (b : Word) (w : Byte) (s t : State) : Prop :=
  ∃ u, Stored a v s u ∧ Stored b w u t

/-- An instruction that pushes `v` (R202): its high byte to SP-1 and then its low byte to SP-2,
SP down by two, no other register and no control state changed, and `post`; the first of the two
writes that has no legal target decides the fault. -/
def PushForm (i : Instr) (v : Word) (s : State) (post : State → Prop) : Prop :=
  (s.Writable (s.sp - 1) → s.Writable (s.sp - 2) → Runs i s fun t =>
    StoredTwo (s.sp - 1) (hiByte v) (s.sp - 2) (loByte v) s t ∧ t.sp = s.sp - 2 ∧
      KeepsRegs [] s t ∧ SameControl s t ∧ post t) ∧
  (¬s.Writable (s.sp - 1) → Fails i s (.unmappedAddressError (s.sp - 1) .write)) ∧
  (s.Writable (s.sp - 1) → ¬s.Writable (s.sp - 2) →
    Fails i s (.unmappedAddressError (s.sp - 2) .write))

/-- An instruction that pops a word (R202): the low byte at SP and then the high byte at SP+1, SP
up by two, no memory changed, and `post` of the word; the first of the two reads that is unmapped
decides the fault. -/
def PopForm (i : Instr) (s : State) (post : Word → State → Prop) : Prop :=
  (∀ lo hi, s.busRead s.sp = some lo → s.busRead (s.sp + 1) = some hi → Runs i s fun t =>
    t.sp = s.sp + 2 ∧ SameMemory s t ∧ post (mkWord hi lo) t) ∧
  (s.busRead s.sp = none → Fails i s (.unmappedAddressError s.sp .read)) ∧
  ∀ lo, s.busRead s.sp = some lo → s.busRead (s.sp + 1) = none →
    Fails i s (.unmappedAddressError (s.sp + 1) .read)

/-- The bytes of an ALU instruction's forms (R300 to R307). -/
def AluCoded (op : AluOp) : Prop :=
  (∀ r, Coded (rowAlu op r) [0x80 + 8 * op.number + r.number]) ∧
  ∀ n, Coded (rowAluImm op n) [0xC6 + 8 * op.number, n]

/-- The forms of an ALU instruction (44_alu8, its preamble): a register operand (1 byte, 1
M-cycle), the byte at HL (1 byte, 2 M-cycles, faulting where it is unmapped) and an immediate
(2 bytes, 2 M-cycles); `post` is what the operation does with the operand value. -/
def AluForms (op : AluOp) (s : State) (post : Byte → State → Prop) : Prop :=
  (∀ r q, r.reg = some q →
    Runs (rowAlu op r) s fun t => post (s.get8 q) t ∧ Advanced 1 1 s t) ∧
  LoadForm (rowAlu op .mhl) s.hl s (fun v t => post v t ∧ Advanced 1 2 s t) ∧
  ∀ n, Runs (rowAluImm op n) s fun t => post n t ∧ Advanced 2 2 s t

/-- The forms of a read-modify-write instruction on an r8 operand (R364): on a register, and on
the byte at HL, which is read, then written back even if it did not change; the first of the two
accesses that is unmapped decides the fault. `new v` is the byte written back and `flags v t` what
holds of the flags; `regs` are the registers that may change beside the operand. -/
def RmwForms (row : R8 → Instr) (len : Word) (cycReg cycMem : Nat) (s : State)
    (regs : List Reg8) (new : Byte → Byte) (flags : Byte → State → Prop) : Prop :=
  (∀ r q, r.reg = some q → Runs (row r) s fun t =>
    t.get8 q = new (s.get8 q) ∧ flags (s.get8 q) t ∧ OnlyRegs (q :: regs) s t ∧
      Advanced len cycReg s t) ∧
  (∀ v, s.busRead s.hl = some v → StoreForm (row .mhl) s.hl (new v) s regs fun t =>
    flags v t ∧ Advanced len cycMem s t) ∧
  (s.busRead s.hl = none → Fails (row .mhl) s (.unmappedAddressError s.hl .read))

/-- The rotate and shift table (R232) in terms of rotations, shifts and a carry bit put at one end
of the byte: the result and the carry-out. -/
def shiftTable (op : RotOp) (v : Byte) (c : Bool) : Byte × Bool :=
  match op with
  | .rlc => (v.rotateLeft 1, v.msb)
  | .rrc => (v.rotateRight 1, v.getLsbD 0)
  | .rl => ((v ++ BitVec.ofBool c).extractLsb' 0 8, v.msb)
  | .rr => ((BitVec.ofBool c ++ v).extractLsb' 1 8, v.getLsbD 0)
  | .sla => (v + v, v.msb)
  | .sra => (v.sshiftRight 1, v.getLsbD 0)
  | .swap => (v.rotateLeft 4, false)
  | .srl => (BitVec.ofNat 8 (v.toNat / 2), v.getLsbD 0)

/-- Decimal adjust (R234) on exact integers: the adjusted value before truncation and the carry. -/
def daaExact (a : Byte) (n h c : Bool) : Int × Bool :=
  if n then
    ((a.toNat : Int) - (if c then 0x60 else 0) - (if h then 0x06 else 0), c)
  else
    ((a.toNat : Int) + (if c ∨ a.toNat > 0x99 then 0x60 else 0) +
      (if h ∨ a.toNat % 16 > 9 then 0x06 else 0), c || decide (a.toNat > 0x99))

end Machine

end Sys2Proof
end

