-- ==== Sys2Proof/Certificates/Slice0/Obligations.lean ====
section
/-! DEFINITION. The obligations: what the numbered rules of the spec say the machine does, stated
over every state. -/

open Sys2Proof Sys2Proof.Machine

/-! ## Construction and reset -/

/-- Construction from parameters that pass the checks (R501): the power-on registers (R59, R60),
the interrupt state (R62), no halt and no error (R63), the power-on controller (R64), the image (R65)
and initial memory (R66) as given, the byte at 0x0100 latched (R61), and the host's writes as the
launch gives them (R8, R505). The model's choices: a launch lists initial memory as pairs of which
the last for an address decides (log 15), and the host's writes as a schedule (log 3). -/
def Obligations.ConstructedCore : Prop :=
  ∀ p : Launch, p.check = none → ∃ c, State.construct p = .ok c ∧
    c.get16 .af = 0x01B0 ∧ c.get16 .bc = 0x0013 ∧ c.get16 .de = 0x00D8 ∧ c.get16 .hl = 0x014D ∧
    c.get16 .sp = 0xFFFE ∧ c.get16 .pc = 0x0100 ∧ c.busRead 0x0100 = some c.ir ∧
    c.ime = false ∧ c.eiPending = false ∧ c.halted = false ∧ c.error = none ∧
    (p.controller = .romOnly → c.bank = .romOnly) ∧
    (p.controller = .mbc1 →
      c.bank = .mbc1 { ramEn := false, bank1 := 1, bank2 := 0, mode := false }) ∧
    c.romBankCount = p.romBankCount ∧ c.ramSize = p.ramSize ∧ c.hostInput = p.hostInput ∧
    (∀ k v, p.romImage[k]? = some v → c.rom.read k = v) ∧
    (∀ a v, storageAddress a = true →
      p.initialMem.reverse.find? (fun x => x.1 == a) = some (a, v) → c.mem.read a = v) ∧
    (∀ i v, i < p.ramSize →
      p.initialCartRam.reverse.find? (fun x => x.1 == i) = some (i, v) → c.cartRam.read i = v)

/-- The header checks in their order (R120, R451): the first that fails names the reason of the
ConfigurationError, and no core exists; where all pass there is one. -/
def Obligations.ConstructionErrors : Prop :=
  ∀ p : Launch,
    (∀ n, p.controller = .other n →
      State.construct p = .error (.configurationError .unsupportedController)) ∧
    (∀ counts rams : List Nat,
      (p.controller = .romOnly ∧ counts = [2] ∧ rams = [0]) ∨
        (p.controller = .mbc1 ∧ counts = [2, 4, 8, 16, 32] ∧
          rams = [0, 0x800, 0x2000, 0x8000]) →
      (p.romBankCount ∉ counts →
        State.construct p = .error (.configurationError .badBankCount)) ∧
      (p.romBankCount ∈ counts → p.ramSize ∉ rams →
        State.construct p = .error (.configurationError .badRamSize)) ∧
      (p.romBankCount ∈ counts → p.ramSize ∈ rams →
        p.romImage.length ≠ p.romBankCount * 0x4000 →
        State.construct p = .error (.configurationError .imageLengthMismatch)) ∧
      (p.romBankCount ∈ counts → p.ramSize ∈ rams →
        p.romImage.length = p.romBankCount * 0x4000 → ∃ c, State.construct p = .ok c))

/-- State.reset is the construction of the model's own cartridge (log 1, log 2): MBC1, four banks,
0x2000 bytes of RAM, an image of zeros, initial memory that gives nothing, and no host write
(log 3). -/
def Obligations.ResetIsConstructed : Prop :=
  State.construct
    { controller := .mbc1, romBankCount := 4, ramSize := 0x2000,
      romImage := List.replicate 0x10000 0, initialMem := [], initialCartRam := [],
      hostInput := [] } =
    .ok State.reset

/-! ## Registers -/

/-- The bytes of the pairs (R41) and the layout of F (R44). -/
def Obligations.RegisterLayout : Prop :=
  (∀ s : State,
    s.get8 .a = (s.get16 .af).extractLsb' 8 8 ∧ s.get8 .f = (s.get16 .af).extractLsb' 0 8 ∧
    s.get8 .b = (s.get16 .bc).extractLsb' 8 8 ∧ s.get8 .c = (s.get16 .bc).extractLsb' 0 8 ∧
    s.get8 .d = (s.get16 .de).extractLsb' 8 8 ∧ s.get8 .e = (s.get16 .de).extractLsb' 0 8 ∧
    s.get8 .h = (s.get16 .hl).extractLsb' 8 8 ∧ s.get8 .l = (s.get16 .hl).extractLsb' 0 8 ∧
    s.get8 .f &&& 0x0F = 0) ∧
  ∀ z n h c : Bool,
    (flagByte z n h c).getLsbD 7 = z ∧ (flagByte z n h c).getLsbD 6 = n ∧
    (flagByte z n h c).getLsbD 5 = h ∧ (flagByte z n h c).getLsbD 4 = c ∧
    flagByte z n h c &&& 0x0F = 0

/-- Register reads and writes: an 8-bit read is its byte of the pair; an 8-bit write replaces its byte of the parent pair and leaves the sibling byte
(R42), F but for its low nibble (R45); a 16-bit write replaces the whole register (R43), AF but for
that nibble; no other register and nothing else changes. -/
def Obligations.RegisterWrites : Prop :=
  (∀ (s : State) (q : Reg8), s.get8 q =
    (s.get16 q.pair).extractLsb' (if q ∈ [Reg8.a, .b, .d, .h] then 8 else 0) 8) ∧
  (∀ (s : State) (v : Byte),
    (s.set8 .a v).get16 .af = v ++ (s.get16 .af).extractLsb' 0 8 ∧
    (s.set8 .f v).get16 .af = (s.get16 .af).extractLsb' 8 8 ++ (v &&& 0xF0) ∧
    (s.set8 .b v).get16 .bc = v ++ (s.get16 .bc).extractLsb' 0 8 ∧
    (s.set8 .c v).get16 .bc = (s.get16 .bc).extractLsb' 8 8 ++ v ∧
    (s.set8 .d v).get16 .de = v ++ (s.get16 .de).extractLsb' 0 8 ∧
    (s.set8 .e v).get16 .de = (s.get16 .de).extractLsb' 8 8 ++ v ∧
    (s.set8 .h v).get16 .hl = v ++ (s.get16 .hl).extractLsb' 0 8 ∧
    (s.set8 .l v).get16 .hl = (s.get16 .hl).extractLsb' 8 8 ++ v ∧
    ∀ q : Reg8, OnlyWords [q.pair] s (s.set8 q v)) ∧
  ∀ (s : State) (q : Reg16) (v : Word),
    (s.set16 q v).get16 q = (if q = .af then v &&& 0xFFF0 else v) ∧
    OnlyWords [q] s (s.set16 q v)

/-! ## The address space and the bank controller -/

/-- What an access reaches (R95, R96, R104, R106, R107): the fixed and the switchable ROM window,
plain storage, and nothing in the two ranges that are not recognized, where every access faults. -/
def Obligations.BusReadRouting : Prop :=
  ∀ (s : State) (a : Word),
    (a.toNat < 0x4000 → s.busRead a = some (s.rom.read a.toNat)) ∧
    (0x4000 ≤ a.toNat → a.toNat < 0x8000 →
      (s.bank = .romOnly → s.busRead a = some (s.rom.read (0x4000 + (a.toNat - 0x4000)))) ∧
      ∀ r, s.bank = .mbc1 r → s.busRead a = some (s.rom.read
        (((r.bank2.toNat * 32 + r.bank1.toNat) &&& (s.romBankCount - 1)) * 0x4000 +
          (a.toNat - 0x4000)))) ∧
    ((0x8000 ≤ a.toNat ∧ a.toNat < 0xA000) ∨ (0xC000 ≤ a.toNat ∧ a.toNat < 0xE000) ∨
        (0xFE00 ≤ a.toNat ∧ a.toNat < 0xFEA0) ∨ 0xFF00 ≤ a.toNat →
      s.busRead a = some (s.mem.read a.toNat)) ∧
    ((0xE000 ≤ a.toNat ∧ a.toNat < 0xFE00) ∨ (0xFEA0 ≤ a.toNat ∧ a.toNat < 0xFF00) →
      s.NoAccess a)

/-- The effective bank of the switchable window (R104): the selection bits the cartridge decodes,
inside the declared count, and 0 exactly where BANK1 is a multiple of that count. -/
def Obligations.EffectiveBankMasked : Prop :=
  ∀ (s : State) (r : Mbc1), s.bank = .mbc1 r → s.romBankCount ∈ [2, 4, 8, 16, 32] →
    s.effRomBank = (r.bank2.toNat * 32 + r.bank1.toNat) % s.romBankCount ∧
    s.effRomBank = r.bank1.toNat &&& (s.romBankCount - 1) ∧
    s.effRomBank < s.romBankCount ∧
    (s.effRomBank = 0 ↔ s.romBankCount ∣ r.bank1.toNat)

/-- An access to cartridge RAM (R105): it reaches the byte the rule names, for a read and for a
write, and faults otherwise. -/
def Obligations.CartridgeRamAccess : Prop :=
  ∀ (s : State) (a : Word), 0xA000 ≤ a.toNat → a.toNat < 0xC000 →
    (∀ i, s.CartRamByte a i →
      s.busRead a = some (s.cartRam.read i) ∧
      ∀ v, ∃ t, s.busWrite a v = some t ∧ t.cartRam.read i = v ∧
        ∀ j, j ≠ i → t.cartRam.read j = s.cartRam.read j) ∧
    ((∀ i, ¬s.CartRamByte a i) → s.NoAccess a)

/-- The control writes of MBC1 (R99 to R103): each range sets its one register and nothing else;
the ROM image stays. -/
def Obligations.ControlWrites : Prop :=
  ∀ (s : State) (r : Mbc1) (a : Word) (v : Byte), s.bank = .mbc1 r →
    (a.toNat < 0x2000 → s.busWrite a v =
      some { s with bank := .mbc1 { r with ramEn := decide (v.toNat % 16 = 0xA) } }) ∧
    (0x2000 ≤ a.toNat → a.toNat < 0x4000 → s.busWrite a v =
      some { s with bank := .mbc1 { r with
        bank1 := if v.toNat % 32 = 0 then 1 else BitVec.ofNat 5 v.toNat } }) ∧
    (0x4000 ≤ a.toNat → a.toNat < 0x6000 → s.busWrite a v =
      some { s with bank := .mbc1 { r with bank2 := BitVec.ofNat 2 v.toNat } }) ∧
    (0x6000 ≤ a.toNat → a.toNat < 0x8000 → s.busWrite a v =
      some { s with bank := .mbc1 { r with mode := decide (v.toNat % 2 = 1) } })

/-- A write (R93, R94): where it has a legal target it is exactly one store, and no register and no
control state changes; where it has none (R98, R107 among these) there is no write. -/
def Obligations.WriteStoresOnce : Prop :=
  ∀ (s : State) (a : Word) (v : Byte),
    (s.Writable a → ∃ t, s.busWrite a v = some t ∧
      Stored a v s t ∧ KeepsWords [] s t ∧ SameControl s t ∧ t.cycles = s.cycles) ∧
    (¬s.Writable a → s.busWrite a v = none)

/-- The host's writes at one boundary (R114): each is to the I/O range or to object attribute
memory, the last write to a byte is what it holds afterwards, and nothing else changes. -/
def Obligations.HostWritesOnlyItsBytes : Prop :=
  ∀ (s : State) (ws : List HostWrite) (rest : List (List HostWrite)), s.hostInput = ws :: rest →
    (∀ w ∈ ws, (0xFF00 ≤ w.address ∧ w.address < 0xFF80) ∨
      (0xFE00 ≤ w.address ∧ w.address < 0xFEA0)) ∧
    (∀ k, s.hostPhase.mem.read k =
      ((ws.reverse.find? fun w => w.address == k).map HostWrite.value).getD (s.mem.read k)) ∧
    s.hostPhase = { s with mem := s.hostPhase.mem, hostInput := rest }

/-! ## 8-bit loads and stores -/

/-- LD r,r' (R250): every register pair of operands, the same register twice among them. -/
def Obligations.LoadRegisterRegister : Prop :=
  ∀ (dst src : R8) (p q : Reg8), dst.reg = some p → src.reg = some q →
    Coded (rowLd dst src) [0x40 + 8 * dst.number + src.number] ∧
    ∀ s, Runs (rowLd dst src) s fun t =>
      t.get8 p = s.get8 q ∧ OnlyRegs [p] s t ∧ Advanced 1 1 s t

/-- LD r,(HL) (R251), whose address is HL as it is before the instruction, and LD (HL),r (R252). -/
def Obligations.MovesThroughHl : Prop :=
  ∀ (r : R8) (q : Reg8), r.reg = some q →
    Coded (rowLd r .mhl) [0x46 + 8 * r.number] ∧ Coded (rowLd .mhl r) [0x70 + r.number] ∧
    ∀ s : State,
      (LoadForm (rowLd r .mhl) s.hl s fun v t =>
        t.get8 q = v ∧ OnlyRegs [q] s t ∧ Advanced 1 2 s t) ∧
      StoreForm (rowLd .mhl r) s.hl (s.get8 q) s [] (Advanced 1 2 s)

/-- LD r,d8 (R253) and LD (HL),d8 (R254). -/
def Obligations.LoadImmediate : Prop :=
  ∀ n : Byte,
    (∀ (r : R8) (q : Reg8), r.reg = some q →
      Coded (rowLdImm r n) [0x06 + 8 * r.number, n] ∧
      ∀ s, Runs (rowLdImm r n) s fun t =>
        t.get8 q = n ∧ OnlyRegs [q] s t ∧ Advanced 2 2 s t) ∧
    Coded (.ld_mhl_d8 n) [0x36, n] ∧
    ∀ s, StoreForm (.ld_mhl_d8 n) s.hl n s [] (Advanced 2 3 s)

/-- LD A,(BC) (R255), LD A,(DE) (R256) and LD A,(a16) (R264). -/
def Obligations.LoadAccumulatorFromAddress : Prop :=
  Coded .ld_a_mbc [0x0A] ∧ Coded .ld_a_mde [0x1A] ∧
  (∀ lo hi, Coded (.ld_a_ma16 (hi ++ lo)) [0xFA, lo, hi]) ∧
  ∀ s : State,
    let loaded (len : Word) (cyc : Nat) (v : Byte) (t : State) : Prop :=
      t.get8 .a = v ∧ OnlyRegs [.a] s t ∧ Advanced len cyc s t
    LoadForm .ld_a_mbc (s.get16 .bc) s (loaded 1 2) ∧
    LoadForm .ld_a_mde (s.get16 .de) s (loaded 1 2) ∧
    ∀ a, LoadForm (.ld_a_ma16 a) a s (loaded 3 4)

/-- LD (BC),A (R257), LD (DE),A (R258) and LD (a16),A (R263). -/
def Obligations.StoreAccumulatorToAddress : Prop :=
  Coded .ld_mbc_a [0x02] ∧ Coded .ld_mde_a [0x12] ∧
  (∀ lo hi, Coded (.ld_ma16_a (hi ++ lo)) [0xEA, lo, hi]) ∧
  ∀ s : State,
    StoreForm .ld_mbc_a (s.get16 .bc) (s.get8 .a) s [] (Advanced 1 2 s) ∧
    StoreForm .ld_mde_a (s.get16 .de) (s.get8 .a) s [] (Advanced 1 2 s) ∧
    ∀ a, StoreForm (.ld_ma16_a a) a (s.get8 .a) s [] (Advanced 3 4 s)

/-- LDH (a8),A (R265), LDH A,(a8) (R266), LD (C),A (R267) and LD A,(C) (R268): the address
0xFF00 + offset is always mapped, so each of them always completes. -/
def Obligations.HighPageMoves : Prop :=
  (∀ n, Coded (.ldh_ma8_a n) [0xE0, n]) ∧ (∀ n, Coded (.ldh_a_ma8 n) [0xF0, n]) ∧
  Coded .ld_mc_a [0xE2] ∧ Coded .ld_a_mc [0xF2] ∧
  ∀ s : State,
    let stored (i : Instr) (off : Byte) (len : Word) (cyc : Nat) : Prop :=
      Runs i s fun t => Stored (0xFF00 + off.zeroExtend 16) (s.get8 .a) s t ∧ KeepsRegs [] s t ∧
        t.sp = s.sp ∧ SameControl s t ∧ Advanced len cyc s t
    let loaded (i : Instr) (off : Byte) (len : Word) (cyc : Nat) : Prop :=
      Runs i s fun t => s.busRead (0xFF00 + off.zeroExtend 16) = some (t.get8 .a) ∧
        OnlyRegs [.a] s t ∧ Advanced len cyc s t
    (∀ n, stored (.ldh_ma8_a n) n 2 3) ∧ (∀ n, loaded (.ldh_a_ma8 n) n 2 3) ∧
    stored .ld_mc_a (s.get8 .c) 1 2 ∧ loaded .ld_a_mc (s.get8 .c) 1 2

/-- LD (HL+),A (R259), LD (HL-),A (R260), LD A,(HL+) (R261) and LD A,(HL-) (R262): the access at
HL, then HL moved by one, wrapping; where the access faults nothing runs. -/
def Obligations.MovesThroughSteppedHl : Prop :=
  Coded .ld_mhli_a [0x22] ∧ Coded .ld_mhld_a [0x32] ∧ Coded .ld_a_mhli [0x2A] ∧
  Coded .ld_a_mhld [0x3A] ∧
  ∀ s : State,
    let loaded (d : Int) (v : Byte) (t : State) : Prop :=
      t.get8 .a = v ∧ t.get16 .hl = BitVec.ofInt 16 (s.hl.toNat + d) ∧
        OnlyRegs [.a, .h, .l] s t ∧ Advanced 1 2 s t
    let stored (d : Int) (t : State) : Prop :=
      t.get16 .hl = BitVec.ofInt 16 (s.hl.toNat + d) ∧ Advanced 1 2 s t
    StoreForm .ld_mhli_a s.hl (s.get8 .a) s [.h, .l] (stored 1) ∧
    StoreForm .ld_mhld_a s.hl (s.get8 .a) s [.h, .l] (stored (-1)) ∧
    LoadForm .ld_a_mhli s.hl s (loaded 1) ∧
    LoadForm .ld_a_mhld s.hl s (loaded (-1))

/-! ## 16-bit loads and the stack -/

/-- LD rr,d16 (R280) and LD SP,HL (R282). -/
def Obligations.LoadWord : Prop :=
  (∀ (r : Rp) (lo hi : Byte),
    Coded (rowLdRp r (hi ++ lo)) [0x01 + 16 * r.number, lo, hi] ∧
    ∀ s, Runs (rowLdRp r (hi ++ lo)) s fun t =>
      t.get16 r.reg = hi ++ lo ∧ OnlyWords [r.reg, .pc] s t ∧ Advanced 3 3 s t) ∧
  Coded .ld_sp_hl [0xF9] ∧
  ∀ s, Runs .ld_sp_hl s fun t =>
    t.get16 .sp = s.get16 .hl ∧ OnlyWords [.sp, .pc] s t ∧ Advanced 1 2 s t

/-- LD (a16),SP (R281): the low byte of SP at the address, then the high byte at the address plus
one, wrapping. -/
def Obligations.StoreStackPointer : Prop :=
  (∀ lo hi, Coded (.ld_ma16_sp (hi ++ lo)) [0x08, lo, hi]) ∧
  ∀ (s : State) (a : Word),
    (s.Writable a → s.Writable (a + 1) → Runs (.ld_ma16_sp a) s fun t =>
      StoredTwo a (s.sp.extractLsb' 0 8) (a + 1) (s.sp.extractLsb' 8 8) s t ∧
        KeepsRegs [] s t ∧ t.sp = s.sp ∧ SameControl s t ∧ Advanced 3 5 s t) ∧
    (¬s.Writable a → Fails (.ld_ma16_sp a) s (.unmappedAddressError a .write)) ∧
    (s.Writable a → ¬s.Writable (a + 1) →
      Fails (.ld_ma16_sp a) s (.unmappedAddressError (a + 1) .write))

/-- PUSH rr (R283). -/
def Obligations.PushPair : Prop :=
  ∀ r : Rp2, Coded (rowPush r) [0xC5 + 16 * r.number] ∧
    ∀ s, PushForm (rowPush r) (s.get16 r.reg) s (Advanced 1 4 s)

/-- POP rr (R284) and POP AF (R285), which drops the low nibble of the popped F. -/
def Obligations.PopPair : Prop :=
  ∀ r : Rp2, Coded (rowPop r) [0xC1 + 16 * r.number] ∧
    ∀ s, PopForm (rowPop r) s fun v t =>
      t.get16 r.reg = (if r = .af then v &&& 0xFFF0 else v) ∧
      KeepsWords [r.reg, .sp, .pc] s t ∧ SameControl s t ∧ Advanced 1 3 s t

/-! ## 8-bit arithmetic and logic -/

/-- ADD A,s (R300) and ADC A,s (R301), with exact sums. -/
def Obligations.AddAndAddWithCarry : Prop :=
  AluCoded .add ∧ AluCoded .adc ∧
  ∀ s : State,
    let a := (s.get8 .a).toNat
    let sum (c : Nat) (v : Byte) (t : State) : Prop :=
      t.get8 .a = BitVec.ofNat 8 (a + v.toNat + c) ∧
      FlagsAre (decide ((a + v.toNat + c) % 256 = 0)) false
        (decide (a % 16 + v.toNat % 16 + c > 0xF)) (decide (a + v.toNat + c > 0xFF)) t ∧
      OnlyRegs [.a, .f] s t
    AluForms .add s (sum 0) ∧ AluForms .adc s (sum ((s.get8 .f).getLsbD 4).toNat)

/-- SUB s (R302), SBC A,s (R303) and CP s (R307), with exact differences; CP writes only F. -/
def Obligations.SubtractAndCompare : Prop :=
  AluCoded .sub ∧ AluCoded .sbc ∧ AluCoded .cp ∧
  ∀ s : State,
    let a := (s.get8 .a).toNat
    let flags (c : Nat) (v : Byte) (t : State) : Prop :=
      FlagsAre (decide (((a : Int) - v.toNat - c) % 256 = 0)) true
        (decide (a % 16 < v.toNat % 16 + c)) (decide (a < v.toNat + c)) t
    let difference (c : Nat) (v : Byte) (t : State) : Prop :=
      t.get8 .a = BitVec.ofInt 8 ((a : Int) - v.toNat - c) ∧ flags c v t ∧ OnlyRegs [.a, .f] s t
    AluForms .sub s (difference 0) ∧
    AluForms .sbc s (difference ((s.get8 .f).getLsbD 4).toNat) ∧
    AluForms .cp s fun v t => flags 0 v t ∧ OnlyRegs [.f] s t

/-- AND s (R304), XOR s (R305) and OR s (R306), bit by bit. -/
def Obligations.LogicOperations : Prop :=
  AluCoded .and ∧ AluCoded .xor ∧ AluCoded .or ∧
  ∀ s : State,
    let result (f : Bool → Bool → Bool) (h : Bool) (v : Byte) (t : State) : Prop :=
      (∀ j, j < 8 → (t.get8 .a).getLsbD j = f ((s.get8 .a).getLsbD j) (v.getLsbD j)) ∧
      FlagsAre (decide (t.get8 .a = 0)) false h false t ∧ OnlyRegs [.a, .f] s t
    AluForms .and s (result and true) ∧ AluForms .xor s (result xor false) ∧
    AluForms .or s (result or false)

/-- INC r (R308), INC (HL) (R309), DEC r (R310) and DEC (HL) (R311): C is kept. -/
def Obligations.IncrementAndDecrement : Prop :=
  (∀ r : R8, Coded (rowInc r) [0x04 + 8 * r.number] ∧ Coded (rowDec r) [0x05 + 8 * r.number]) ∧
  ∀ s : State,
    RmwForms rowInc 1 1 3 s [.f] (fun v => BitVec.ofNat 8 (v.toNat + 1)) (fun v =>
      FlagsAre (decide (v.toNat = 0xFF)) false (decide (v.toNat % 16 = 0xF))
        ((s.get8 .f).getLsbD 4)) ∧
    RmwForms rowDec 1 1 3 s [.f] (fun v => BitVec.ofNat 8 (v.toNat + 255)) (fun v =>
      FlagsAre (decide (v.toNat = 1)) true (decide (v.toNat % 16 = 0)) ((s.get8 .f).getLsbD 4))

/-- DAA (R312) by the algorithm of R234 on exact integers. -/
def Obligations.DecimalAdjust : Prop :=
  Coded .daa [0x27] ∧
  ∀ s, Runs .daa s fun t =>
    let f := s.get8 .f
    let r := daaExact (s.get8 .a) (f.getLsbD 6) (f.getLsbD 5) (f.getLsbD 4)
    t.get8 .a = BitVec.ofInt 8 r.1 ∧
    FlagsAre (decide (r.1 % 256 = 0)) (f.getLsbD 6) false r.2 t ∧
    OnlyRegs [.a, .f] s t ∧ Advanced 1 1 s t

/-- CPL (R313), SCF (R314) and CCF (R315). -/
def Obligations.ComplementAndCarry : Prop :=
  Coded .cpl [0x2F] ∧ Coded .scf [0x37] ∧ Coded .ccf [0x3F] ∧
  ∀ s : State,
    let z := (s.get8 .f).getLsbD 7
    let c := (s.get8 .f).getLsbD 4
    (Runs .cpl s fun t => t.get8 .a = BitVec.ofNat 8 (255 - (s.get8 .a).toNat) ∧
      FlagsAre z true true c t ∧ OnlyRegs [.a, .f] s t ∧ Advanced 1 1 s t) ∧
    (Runs .scf s fun t => FlagsAre z false false true t ∧ OnlyRegs [.f] s t ∧ Advanced 1 1 s t) ∧
    (Runs .ccf s fun t => FlagsAre z false false (!c) t ∧ OnlyRegs [.f] s t ∧ Advanced 1 1 s t)

/-! ## 16-bit arithmetic -/

/-- ADD HL,rr (R340): Z is kept, H is the carry from bit 11 and C the carry from bit 15. -/
def Obligations.AddToHl : Prop :=
  ∀ r : Rp, Coded (rowAddHl r) [0x09 + 16 * r.number] ∧
    ∀ s, Runs (rowAddHl r) s fun t =>
      let a := (s.get16 .hl).toNat
      let b := (s.get16 r.reg).toNat
      t.get16 .hl = BitVec.ofNat 16 (a + b) ∧
      FlagsAre ((s.get8 .f).getLsbD 7) false (decide (a % 0x1000 + b % 0x1000 > 0x0FFF))
        (decide (a + b > 0xFFFF)) t ∧
      OnlyRegs [.h, .l, .f] s t ∧ Advanced 1 2 s t

/-- INC rr (R341) and DEC rr (R342): modulo 2^16, no flag written. -/
def Obligations.StepWordRegister : Prop :=
  ∀ r : Rp, Coded (rowIncRp r) [0x03 + 16 * r.number] ∧ Coded (rowDecRp r) [0x0B + 16 * r.number] ∧
    ∀ s : State,
      (Runs (rowIncRp r) s fun t => t.get16 r.reg = BitVec.ofNat 16 ((s.get16 r.reg).toNat + 1) ∧
        OnlyWords [r.reg, .pc] s t ∧ Advanced 1 2 s t) ∧
      (Runs (rowDecRp r) s fun t =>
        t.get16 r.reg = BitVec.ofNat 16 ((s.get16 r.reg).toNat + 0xFFFF) ∧
        OnlyWords [r.reg, .pc] s t ∧ Advanced 1 2 s t)

/-- ADD SP,e8 (R343) and LD HL,SP+e8 (R344): the signed displacement added to SP; H and C are the
carries of the unsigned addition to the low byte of SP. -/
def Obligations.StackPointerPlusDisplacement : Prop :=
  ∀ e : Byte, Coded (.add_sp_e8 e) [0xE8, e] ∧ Coded (.ld_hl_sp_e8 e) [0xF8, e] ∧
    ∀ s : State,
      let sum := BitVec.ofInt 16 (s.sp.toNat + e.toInt)
      let flags : State → Prop := FlagsAre false false
        (decide (s.sp.toNat % 16 + e.toNat % 16 > 0xF))
        (decide (s.sp.toNat % 256 + e.toNat > 0xFF))
      (Runs (.add_sp_e8 e) s fun t => t.sp = sum ∧ flags t ∧ KeepsRegs [.f] s t ∧
        SameControl s t ∧ SameMemory s t ∧ Advanced 2 4 s t) ∧
      (Runs (.ld_hl_sp_e8 e) s fun t => t.get16 .hl = sum ∧ flags t ∧
        OnlyRegs [.h, .l, .f] s t ∧ Advanced 2 3 s t)

/-! ## Rotates, shifts and bits -/

/-- RLCA (R360), RRCA (R361), RLA (R362) and RRA (R363): the result and the carry of the shift
table (R231, R232), Z always reset. -/
def Obligations.AccumulatorRotates : Prop :=
  Coded .rlca [0x07] ∧ Coded .rrca [0x0F] ∧ Coded .rla [0x17] ∧ Coded .rra [0x1F] ∧
  ∀ s : State,
    let rotated (op : RotOp) (t : State) : Prop :=
      let r := shiftTable op (s.get8 .a) ((s.get8 .f).getLsbD 4)
      t.get8 .a = r.1 ∧ FlagsAre false false false r.2 t ∧ OnlyRegs [.a, .f] s t ∧
        Advanced 1 1 s t
    Runs .rlca s (rotated .rlc) ∧ Runs .rrca s (rotated .rrc) ∧ Runs .rla s (rotated .rl) ∧
    Runs .rra s (rotated .rr)

/-- RLC (R365), RRC (R366), RL (R367), RR (R368), SLA (R369), SRA (R370), SWAP (R371) and SRL
(R372), on every operand, by the shift table (R232). -/
def Obligations.RotatesAndShifts : Prop :=
  ∀ op : RotOp,
    (∀ r : R8, Coded (rowRot op r) [0xCB, 8 * op.number + r.number]) ∧
    ∀ s : State,
      let f := fun v => shiftTable op v ((s.get8 .f).getLsbD 4)
      RmwForms (rowRot op) 2 2 4 s [.f] (fun v => (f v).1) fun v =>
        FlagsAre (decide ((f v).1 = 0)) false false (f v).2

/-- BIT b,s (R373): only a read. -/
def Obligations.TestBit : Prop :=
  ∀ b : Fin 8,
    (∀ r : R8, Coded (rowBit b r) [0xCB, 0x40 + 8 * BitVec.ofNat 8 b.val + r.number]) ∧
    ∀ s : State,
      let tested (cyc : Nat) (v : Byte) (t : State) : Prop :=
        FlagsAre (!v.getLsbD b.val) false true ((s.get8 .f).getLsbD 4) t ∧
        OnlyRegs [.f] s t ∧ Advanced 2 cyc s t
      (∀ r q, r.reg = some q → Runs (rowBit b r) s (tested 2 (s.get8 q))) ∧
      LoadForm (rowBit b .mhl) s.hl s (tested 3)

/-- RES b,s (R374) and SET b,s (R375): one bit of the operand, no flag; the byte at HL is written
even if it does not change (R364). -/
def Obligations.ResetAndSetBit : Prop :=
  ∀ b : Fin 8,
    (∀ r : R8, Coded (rowRes b r) [0xCB, 0x80 + 8 * BitVec.ofNat 8 b.val + r.number]) ∧
    (∀ r : R8, Coded (rowSet b r) [0xCB, 0xC0 + 8 * BitVec.ofNat 8 b.val + r.number]) ∧
    ∀ s : State,
      RmwForms (rowRes b) 2 2 4 s [] (fun v => v &&& ~~~(1#8 <<< b.val)) (fun _ _ => True) ∧
      RmwForms (rowSet b) 2 2 4 s [] (fun v => v ||| 1#8 <<< b.val) (fun _ _ => True)

/-! ## Control transfer -/

/-- JP a16 (R390), JP HL (R392) and JR e8 (R393): only PC changes, to the target. -/
def Obligations.Jumps : Prop :=
  (∀ lo hi, Coded (.jp_a16 (hi ++ lo)) [0xC3, lo, hi]) ∧ Coded .jp_hl [0xE9] ∧
  (∀ e, Coded (.jr_e8 e) [0x18, e]) ∧
  ∀ s : State,
    let jumps (target : Word) (cyc : Nat) (t : State) : Prop :=
      t.pc = target ∧ t.cycles = cyc ∧ OnlyRegs [] s t
    (∀ a, Runs (.jp_a16 a) s (jumps a 4)) ∧ Runs .jp_hl s (jumps (s.get16 .hl) 1) ∧
    ∀ e, Runs (.jr_e8 e) s (jumps (BitVec.ofInt 16 (s.pc.toNat + 2 + e.toInt)) 3)

/-- JP cc,a16 (R391) and JR cc,e8 (R394): to the target where the condition holds on F, past the
instruction where it does not, with the cycles of each case. -/
def Obligations.ConditionalJumps : Prop :=
  ∀ cc : Cond,
    (∀ lo hi, Coded (rowJp cc (hi ++ lo)) [0xC2 + 8 * cc.number, lo, hi]) ∧
    (∀ e, Coded (rowJr cc e) [0x20 + 8 * cc.number, e]) ∧
    ∀ s : State,
      (∀ a, (s.Meets cc → Runs (rowJp cc a) s fun t =>
          t.pc = a ∧ t.cycles = 4 ∧ OnlyRegs [] s t) ∧
        (¬s.Meets cc → Runs (rowJp cc a) s fun t => Advanced 3 3 s t ∧ OnlyRegs [] s t)) ∧
      ∀ e, (s.Meets cc → Runs (rowJr cc e) s fun t =>
          t.pc = BitVec.ofInt 16 (s.pc.toNat + 2 + e.toInt) ∧ t.cycles = 3 ∧ OnlyRegs [] s t) ∧
        (¬s.Meets cc → Runs (rowJr cc e) s fun t => Advanced 2 2 s t ∧ OnlyRegs [] s t)

/-- CALL a16 (R395), CALL cc,a16 (R396) and RST n (R400): the address after the instruction is
pushed and PC goes to the target; a call not taken pushes nothing. -/
def Obligations.Calls : Prop :=
  (∀ lo hi, Coded (.call_a16 (hi ++ lo)) [0xCD, lo, hi]) ∧
  (∀ cc lo hi, Coded (rowCall cc (hi ++ lo)) [0xC4 + 8 * cc.number, lo, hi]) ∧
  (∀ y : Fin 8, Coded (rowRst y) [0xC7 + 8 * BitVec.ofNat 8 y.val]) ∧
  ∀ s : State,
    (∀ a, PushForm (.call_a16 a) (s.pc + 3) s fun t => t.pc = a ∧ t.cycles = 6) ∧
    (∀ cc a, (s.Meets cc → PushForm (rowCall cc a) (s.pc + 3) s fun t =>
        t.pc = a ∧ t.cycles = 6) ∧
      (¬s.Meets cc → Runs (rowCall cc a) s fun t => Advanced 3 3 s t ∧ OnlyRegs [] s t)) ∧
    ∀ y : Fin 8, PushForm (rowRst y) (s.pc + 1) s fun t =>
      t.pc = BitVec.ofNat 16 (8 * y.val) ∧ t.cycles = 4

/-- RET (R397), RET cc (R398) and RETI (R399): PC is the popped word; RETI sets IME at once and
absorbs a pending EI; a return not taken pops nothing. -/
def Obligations.Returns : Prop :=
  Coded .ret [0xC9] ∧ (∀ cc, Coded (rowRet cc) [0xC0 + 8 * cc.number]) ∧ Coded .reti [0xD9] ∧
  ∀ s : State,
    let returned (cyc : Nat) (v : Word) (t : State) : Prop :=
      t.pc = v ∧ t.cycles = cyc ∧ KeepsRegs [] s t
    PopForm .ret s (fun v t => returned 4 v t ∧ SameControl s t) ∧
    (∀ cc, (s.Meets cc → PopForm (rowRet cc) s fun v t => returned 5 v t ∧ SameControl s t) ∧
      (¬s.Meets cc → Runs (rowRet cc) s fun t => Advanced 1 2 s t ∧ OnlyRegs [] s t)) ∧
    PopForm .reti s fun v t => returned 4 v t ∧
      SameControl { s with ime := true, eiPending := false } t

/-! ## System instructions -/

/-- NOP (R420) and DI (R423), whole. -/
def Obligations.NopAndDi : Prop :=
  Coded .nop [0x00] ∧ Coded .di [0xF3] ∧
  ∀ s : State,
    exec .nop s = .next { s with pc := s.pc + 1, cycles := 1 } ∧
    exec .di s = .next { s with ime := false, eiPending := false, pc := s.pc + 1, cycles := 1 }

/-- EI (R424) and its delay (R464): EI itself sets EI_PENDING where IME is 0; its own step leaves
IME = 0; the instruction step after it sets IME and clears EI_PENDING at its end, unless it is DI,
which cancels both. -/
def Obligations.EiAndItsDelay : Prop :=
  Coded .ei [0xFB] ∧
  (∀ s : State, exec .ei s = .next { s with
    eiPending := if s.ime = false then true else s.eiPending, pc := s.pc + 1, cycles := 1 }) ∧
  ∀ s t : State, s.Executes → step s = .next t →
    (s.eiPending = false → s.ime = false → s.ir = 0xFB → t.ime = false ∧ t.eiPending = true) ∧
    (s.eiPending = false → s.ime = true → s.ir = 0xFB → t.ime = true ∧ t.eiPending = false) ∧
    (s.eiPending = true → s.ir = 0xF3 → t.ime = false ∧ t.eiPending = false) ∧
    (s.eiPending = true → s.ir ≠ 0xF3 → t.ime = true ∧ t.eiPending = false)

/-- HALT (R421): with IME = 0 and an enabled line already requested it fails with HaltBug (R468);
otherwise HALTED is set and PC goes past it. While the core is halted (R467), a step with nothing
pending changes nothing but for the host's writes and returns 1 M-cycle, and a step with a line
pending is the step of the woken core, whatever IME is. -/
def Obligations.HaltAndWake : Prop :=
  Coded .halt [0x76] ∧
  (∀ (s : State) (e f : Byte), s.busRead 0xFFFF = some e → s.busRead 0xFF0F = some f →
    (¬(s.ime = false ∧ e &&& f &&& 0x1F ≠ 0) →
      exec .halt s = .next { s with halted := true, pc := s.pc + 1, cycles := 1 }) ∧
    (s.ime = false → e &&& f &&& 0x1F ≠ 0 →
      Fails .halt s (.unimplementedOpcodeError 0x76 s.pc .haltBug))) ∧
  ∀ (s : State) (e f : Byte), s.error = none → s.halted = true →
    s.hostPhase.busRead 0xFFFF = some e → s.hostPhase.busRead 0xFF0F = some f →
    (e &&& f &&& 0x1F = 0 → step s = .next { s.hostPhase with cycles := 1 }) ∧
    (e &&& f &&& 0x1F ≠ 0 → step s = step { s with halted := false })

/-- STOP (R422, R164) always fails with Stop, and a step does not read its second byte, which may
be any; the eleven illegal bytes (R160, R425) always fail with IllegalOpcodeError. -/
def Obligations.StopAndIllegalFail : Prop :=
  encode .stop = [0x10, 0x00] ∧ (∀ b, decode [0x10, b] = .ok (.stop, [])) ∧
  (∀ s : State,
    Fails .stop s (.unimplementedOpcodeError 0x10 s.pc .stop) ∧
    (s.Executes → s.ir = 0x10 → StepFails s (.unimplementedOpcodeError 0x10 s.pc .stop))) ∧
  ∀ x : Instr × Byte, x ∈ [(.illegal_d3, 0xD3), (.illegal_db, 0xDB), (.illegal_dd, 0xDD),
      (.illegal_e3, 0xE3), (.illegal_e4, 0xE4), (.illegal_eb, 0xEB), (.illegal_ec, 0xEC),
      (.illegal_ed, 0xED), (.illegal_f4, 0xF4), (.illegal_fc, 0xFC), (.illegal_fd, 0xFD)] →
    encode x.1 = [x.2] ∧ decode [x.2] = .ok (x.1, []) ∧
    ∀ s : State,
      Fails x.1 s (.illegalOpcodeError x.2 s.pc) ∧
      (s.Executes → s.ir = x.2 → StepFails s (.illegalOpcodeError x.2 s.pc))

/-- PREFIX CB (R426): every second byte is an instruction of the secondary table, the two bytes are
one instruction and one step, and the prefix does what that instruction does; where the operand is a register, or the byte at HL is mapped for
reading and writing, it completes. -/
def Obligations.PrefixRunsSecondary : Prop :=
  (∀ b, ∃ i, Coded i [0xCB, b] ∧ decode [0xCB, b] = .ok (i, [])) ∧
  ∀ s : State,
    (s.busRead (s.pc + 1) = none →
      Fails .prefix_cb s (.unmappedAddressError (s.pc + 1) .fetch)) ∧
    ∀ b, s.busRead (s.pc + 1) = some b →
      (∀ i, encode i = [0xCB, b] → exec .prefix_cb s = exec i s) ∧
      (b.toNat % 8 ≠ 6 ∨ (s.busRead s.hl ≠ none ∧ s.Writable s.hl) →
        Runs .prefix_cb s (Advanced 2
          (if b.toNat % 8 ≠ 6 then 2 else if b.toNat / 64 = 1 then 3 else 4) s))

/-! ## The step -/

/-- A step runs the decoded instruction: `step` is `exec` of it on the state after the host's
writes, awake, and around it a pending EI that is still pending sets IME and the byte at the new PC
is latched; a fault of `exec` is the fault of the step. -/
def Obligations.StepRunsDecoded : Prop :=
  ∀ (s : State) (bs : List Byte) (i : Instr), s.Executes → s.awake.Fetched bs →
    decode bs = .ok (i, []) → i.wellFormed = true →
    (∀ t b, exec i s.awake = .next t → t.busRead t.pc = some b →
      step s = .next { t with
        ir := b
        ime := t.ime || (s.eiPending && t.eiPending)
        eiPending := t.eiPending && !s.eiPending }) ∧
    (∀ t, exec i s.awake = .next t → t.busRead t.pc = none →
      StepFails s (.unmappedAddressError t.pc .fetch)) ∧
    ∀ f, exec i s.awake = .fault f → step s = .fault f

/-- The interrupt condition (R460): the five low bits of the bytes at 0xFFFF and 0xFF0F, which are
always mapped. -/
def Obligations.PendingLines : Prop :=
  ∀ s : State, ∃ e f, s.busRead 0xFFFF = some e ∧ s.busRead 0xFF0F = some f ∧
    ∀ j : Nat, s.pend.getLsbD j = (decide (j < 5) && e.getLsbD j && f.getLsbD j)

/-- Interrupt dispatch (R461, R462, R463): the lowest pending line; PC is pushed, its request bit
is cleared, IME is cleared, PC is its vector and the byte there is latched, in 5 M-cycles; a push
without a legal target fails the step. -/
def Obligations.InterruptDispatch : Prop :=
  ∀ (s : State) (i : Fin 5), s.Dispatches → s.awake.pend.getLsbD i.val = true →
    (∀ j, j < i.val → s.awake.pend.getLsbD j = false) → s.sp ≠ 0 → s.sp ≠ 1 →
    (s.awake.Writable (s.sp - 1) → s.awake.Writable (s.sp - 2) →
      ∃ (t u : State) (f : Byte), step s = .next t ∧
        StoredTwo (s.sp - 1) (hiByte s.pc) (s.sp - 2) (loByte s.pc) s.awake u ∧
        u.busRead 0xFF0F = some f ∧ Stored 0xFF0F (f &&& ~~~(1#8 <<< i.val)) u t ∧
        t.pc = BitVec.ofNat 16 (0x40 + 8 * i.val) ∧ t.busRead t.pc = some t.ir ∧
        t.sp = s.sp - 2 ∧ KeepsRegs [] s t ∧ t.ime = false ∧ t.halted = false ∧
        t.eiPending = s.eiPending ∧ (s.InterruptInv → t.eiPending = false) ∧
        t.error = none ∧ t.hostInput = s.hostInput.tail ∧ t.cycles = 5) ∧
    (¬s.awake.Writable (s.sp - 1) → StepFails s (.unmappedAddressError (s.sp - 1) .write)) ∧
    (s.awake.Writable (s.sp - 1) → ¬s.awake.Writable (s.sp - 2) →
      StepFails s (.unmappedAddressError (s.sp - 2) .write))

/-- A dispatch whose push would write IE (R470) fails with DispatchPushToIE; an ordinary PUSH, CALL
or RST that writes IE is not affected. -/
def Obligations.DispatchPushToIe : Prop :=
  (∀ s : State, s.Dispatches → s.sp = 0 ∨ s.sp = 1 →
    StepFails s (.unimplementedOpcodeError s.ir s.pc .dispatchPushToIE)) ∧
  ∀ s : State, s.sp = 0 →
    (∀ r, Runs (rowPush r) s fun t => t.busRead 0xFFFF = some (hiByte (s.get16 r.reg))) ∧
    (∀ a, Runs (.call_a16 a) s fun t => t.busRead 0xFFFF = some (hiByte (s.pc + 3))) ∧
    (∀ cc a, s.Meets cc → Runs (rowCall cc a) s fun t =>
      t.busRead 0xFFFF = some (hiByte (s.pc + 3))) ∧
    ∀ y : Fin 8, Runs (rowRst y) s fun t => t.busRead 0xFFFF = some (hiByte (s.pc + 1))

/-- IME is written only by DI, EI after its delay, RETI and dispatch (R465). -/
def Obligations.ImeWriters : Prop :=
  ∀ s t : State, step s = .next t → t.ime ≠ s.ime →
    (t.ime = false ∧ (s.Dispatches ∨ (s.Executes ∧ s.ir = 0xF3))) ∨
    (t.ime = true ∧ s.Executes ∧ (s.ir = 0xD9 ∨ s.eiPending = true))

/-- A step of a core with no error answers a next state or one of the spec's fatal errors: it is
never refused (R191), and no run of such a core ends so. -/
def Obligations.StepNeverRefused : Prop :=
  ∀ s : State, s.error = none →
    ((∃ t, step s = .next t) ∨ ∃ e, StepFails s e) ∧
    ∀ n r, (s.run n).ending ≠ .refused r

/-- After a fatal error the core is terminal (R54, R455): a failing step leaves what the state was
but for ERROR, which no later step changes, for there is none. -/
def Obligations.ErrorIsTerminal : Prop :=
  ∀ (s : State) (e : FatalError),
    (StepFails s e → settled s = { s.hostPhase with error := some e }) ∧
    (s.error = some e → step s = .fault (.terminal e) ∧ settled s = s)

/-- IR is the byte at PC (R50, R198), after every step that is not idle. -/
def Obligations.LatchedByte : Prop :=
  ∀ s t : State, step s = .next t → ¬(s.halted = true ∧ s.hostPhase.pend = 0) →
    t.busRead t.pc = some t.ir

/-- The ROM image is the loader's at construction and stays for the whole run (R65), and so do the
cartridge's parameters and the controller's tag: in every step, and in every run of any length. -/
def Obligations.CartridgeFixed : Prop :=
  (∀ p c, State.construct p = .ok c → ∀ k v, p.romImage[k]? = some v → c.rom.read k = v) ∧
  (∀ s t : State, step s = .next t →
    t.rom = s.rom ∧ t.romBankCount = s.romBankCount ∧ t.ramSize = s.ramSize ∧
    (s.bank = .romOnly ↔ t.bank = .romOnly)) ∧
  ∀ (s : State) (n : Nat), (s.run n).state.rom = s.rom ∧
    (s.run n).state.romBankCount = s.romBankCount ∧ (s.run n).state.ramSize = s.ramSize ∧
    (s.bank = .romOnly ↔ (s.run n).state.bank = .romOnly)

/-! ## Invariants -/

/-- The invariants of the interrupt state (R469) hold of a constructed core, and every step keeps
them. -/
def Obligations.InterruptInvKept : Prop :=
  (∀ p c, State.construct p = .ok c → c.InterruptInv) ∧
  ∀ s t : State, s.InterruptInv → step s = .next t → t.InterruptInv

/-- Every step keeps: the low nibble of F zero, BANK1 at least 1, every store in canonical form
within its region, and the cartridge a legal one. -/
def Obligations.StateInvKept : Prop :=
  ∀ s t : State, s.Inv → step s = .next t → t.Inv

/-- The invariants hold after reset, and of every constructed core. -/
def Obligations.InvariantsAtConstruction : Prop :=
  State.reset.InterruptInv ∧ State.reset.Inv ∧
  ∀ p c, State.construct p = .ok c → c.InterruptInv ∧ c.Inv

/-- A halted core with no line enabled stays so (R506): its step is idle, and IE stays, and it is an
end marker. The last clause rests on the model's choice (log 17, which is unsafe), not on a rule of
the spec: the start of a run is a boundary, looked at before the host's writes at it, so that every
run from here, of any bound and of bound 0 too, ends there as marker, with no step and with this
state, before those writes, as its final state. -/
def Obligations.HaltedWithNoLineStays : Prop :=
  ∀ s : State, s.error = none → s.halted = true → s.ie &&& 0x1F = 0 →
    s.endMarker = true ∧
    (∃ t, step s = .next t ∧ t.halted = true ∧ t.ie = s.ie ∧ t.pc = s.pc ∧
      t.error = none ∧ t.endMarker = true) ∧
    ∀ n, (s.run n).ending = .marker ∧ (s.run n).final = some s ∧ (s.run n).steps = 0

/-! ## Encoding -/

/-- Words written out from R159, each decoded to the instruction it stands for. -/
def Obligations.SampleWords : Prop :=
  decode [0x3E, 0x05] = .ok (.ld_a_d8 0x05, []) ∧
  decode [0x46] = .ok (.ld_b_mhl, []) ∧
  decode [0x01, 0x0F, 0x12] = .ok (.ld_bc_d16 0x120F, []) ∧
  decode [0xF5] = .ok (.push_af, []) ∧
  decode [0x9C] = .ok (.sbc_a_h, []) ∧
  decode [0x39] = .ok (.add_hl_sp, []) ∧
  decode [0xCB, 0x37] = .ok (.swap_a, []) ∧
  decode [0xCB, 0xDE] = .ok (.set_3_mhl, []) ∧
  decode [0x28, 0xFB] = .ok (.jr_z_e8 0xFB, []) ∧
  decode [0xDF] = .ok (.rst_18, []) ∧
  decode [0x76] = .ok (.halt, []) ∧
  decode [0xED] = .ok (.illegal_ed, [])

/-- Decode and encode agree: for every well-formed instruction, with every operand, and whatever
bytes follow it. -/
def Obligations.DecodeOfEncode : Prop :=
  ∀ (i : Instr) (rest : List Byte), i.wellFormed = true →
    decode (encode i ++ rest) = .ok (i, rest)

/-- Every byte sequence an instruction can be read from is, STOP's ignored second byte apart, the
encoding of the instruction read (R150, R162). -/
def Obligations.EncodeOfDecode : Prop :=
  ∀ (bs rest : List Byte) (i : Instr), decode bs = .ok (i, rest) → i ≠ .stop →
    bs = encode i ++ rest
end

