-- ==== Sys2Proof/Laws/Memory.lean ====
section
/-! SUPPORT. The laws of a backing store: read over write for every list, and the canonical form
and the bound on the listed addresses, which every operation keeps. -/

namespace Sys2Proof.Machine

@[simp] theorem Memory.read_nil (a : Nat) : Memory.read [] a = Config.unlisted := rfl

theorem Memory.read_erase (m : Memory) (a b : Nat) :
    (m.erase a).read b = if b = a then Config.unlisted else m.read b := by
  induction m with
  | nil => simp [Memory.erase]
  | cons c m ih =>
    obtain ⟨k, v⟩ := c
    by_cases hk : k = a
    · subst hk
      by_cases hb : b = k
      · simpa [Memory.erase, hb] using ih
      · simp [Memory.erase, Memory.read, ih, hb, Ne.symm hb]
    · by_cases hkb : k = b
      · subst hkb
        simp [Memory.erase, Memory.read, hk]
      · simp [Memory.erase, Memory.read, hk, hkb, ih]

theorem Memory.read_insert_other (m : Memory) {a b : Nat} (v : Byte) (h : b ≠ a) :
    (m.insert a v).read b = m.read b := by
  induction m with
  | nil => simp [Memory.insert, Memory.read, Ne.symm h]
  | cons c m ih =>
    obtain ⟨k, w⟩ := c
    by_cases hk : a < k
    · simp [Memory.insert, Memory.read, hk, Ne.symm h]
    · simp [Memory.insert, Memory.read, hk, ih]

theorem Memory.read_insert_same (m : Memory) (a : Nat) (v : Byte)
    (h : ∀ c ∈ m, c.1 ≠ a) : (m.insert a v).read a = v := by
  induction m with
  | nil => simp [Memory.insert, Memory.read]
  | cons c m ih =>
    obtain ⟨k, w⟩ := c
    have hka : k ≠ a := h (k, w) (by simp)
    have ih := ih fun c hc => h c (by simp [hc])
    by_cases hk : a < k <;> simp [Memory.insert, Memory.read, hk, hka, ih]

theorem Memory.mem_erase (m : Memory) (a : Nat) (c : Host.Cell) :
    c ∈ m.erase a ↔ c ∈ m ∧ c.1 ≠ a := by
  induction m with
  | nil => simp [Memory.erase]
  | cons d m ih =>
    obtain ⟨k, v⟩ := d
    by_cases hk : k = a
    · simp only [Memory.erase, hk, if_true, ih, List.mem_cons]
      constructor
      · exact fun h => ⟨.inr h.1, h.2⟩
      · rintro ⟨rfl | h, h2⟩
        · exact absurd rfl h2
        · exact ⟨h, h2⟩
    · simp only [Memory.erase, hk, if_false, ih, List.mem_cons]
      constructor
      · rintro (rfl | h)
        · exact ⟨.inl rfl, hk⟩
        · exact ⟨.inr h.1, h.2⟩
      · rintro ⟨rfl | h, h2⟩
        · exact .inl rfl
        · exact .inr ⟨h, h2⟩

theorem Memory.mem_insert (m : Memory) (a : Nat) (v : Byte) (c : Host.Cell) :
    c ∈ m.insert a v ↔ c = (a, v) ∨ c ∈ m := by
  induction m with
  | nil => simp [Memory.insert]
  | cons d m ih =>
    obtain ⟨k, w⟩ := d
    by_cases hk : a < k
    · simp [Memory.insert, hk]
    · simp only [Memory.insert, hk, if_false, List.mem_cons, ih]
      exact or_left_comm

/-- A read after a write: the byte written at its own address, the old byte elsewhere. -/
theorem Memory.read_write (m : Memory) (a b : Nat) (v : Byte) :
    (m.write a v).read b = if b = a then v else m.read b := by
  unfold Memory.write
  by_cases hv : v = Config.unlisted
  · simp [hv, Memory.read_erase]
  · by_cases hb : b = a
    · subst hb
      simp only [hv, if_false, if_true]
      exact Memory.read_insert_same _ _ _ fun c hc => ((Memory.mem_erase m b c).1 hc).2
    · simp [hv, hb, Memory.read_insert_other _ v hb, Memory.read_erase]

theorem Memory.wf_cons (k : Nat) (v : Byte) (m : Memory) :
    Memory.wf ((k, v) :: m) = true ↔
      v ≠ Config.unlisted ∧ (∀ c ∈ m, k < c.1) ∧ m.wf = true := by
  simp [Memory.wf, and_assoc]

theorem Memory.erase_wf {m : Memory} (a : Nat) (h : m.wf = true) : (m.erase a).wf = true := by
  induction m with
  | nil => exact h
  | cons c m ih =>
    obtain ⟨k, v⟩ := c
    obtain ⟨hv, hk, hm⟩ := (Memory.wf_cons k v m).1 h
    by_cases hka : k = a
    · simpa [Memory.erase, hka] using ih hm
    · simp only [Memory.erase, hka, if_false]
      exact (Memory.wf_cons _ _ _).2
        ⟨hv, fun c hc => hk c ((Memory.mem_erase m a c).1 hc).1, ih hm⟩

theorem Memory.insert_wf {m : Memory} (a : Nat) {v : Byte} (hv : v ≠ Config.unlisted)
    (h : m.wf = true) (ha : ∀ c ∈ m, c.1 ≠ a) : (m.insert a v).wf = true := by
  induction m with
  | nil => simp [Memory.insert, Memory.wf, hv]
  | cons c m ih =>
    obtain ⟨k, w⟩ := c
    obtain ⟨hw, hk, hm⟩ := (Memory.wf_cons k w m).1 h
    have hka : k ≠ a := ha (k, w) (by simp)
    by_cases hlt : a < k
    · simp only [Memory.insert, hlt, if_true]
      refine (Memory.wf_cons _ _ _).2 ⟨hv, fun c hc => ?_, h⟩
      rcases List.mem_cons.1 hc with rfl | hc
      · exact hlt
      · exact hlt.trans (hk c hc)
    · simp only [Memory.insert, hlt, if_false]
      refine (Memory.wf_cons _ _ _).2 ⟨hw, fun c hc => ?_, ih hm fun c hc => ha c (by simp [hc])⟩
      rcases (Memory.mem_insert m a v c).1 hc with rfl | hc
      · show k < a
        omega
      · exact hk c hc

/-- A write keeps the canonical form. -/
theorem Memory.write_wf {m : Memory} (a : Nat) (v : Byte) (h : m.wf = true) :
    (m.write a v).wf = true := by
  unfold Memory.write
  split
  · exact Memory.erase_wf a h
  · rename_i hv
    exact Memory.insert_wf a hv (Memory.erase_wf a h) fun c hc => ((Memory.mem_erase m a c).1 hc).2

/-- A write inside a bound keeps the bound. -/
theorem Memory.write_within {m : Memory} {p : Nat → Bool} {a : Nat} (v : Byte)
    (h : m.within p = true) (ha : p a = true) : (m.write a v).within p = true := by
  simp only [Memory.within, List.all_eq_true] at h ⊢
  intro c hc
  unfold Memory.write at hc
  split at hc
  · exact h c ((Memory.mem_erase m a c).1 hc).1
  · rcases (Memory.mem_insert _ a v c).1 hc with rfl | hc
    · exact ha
    · exact h c ((Memory.mem_erase m a c).1 hc).1

/-- A store built from writes is in canonical form. -/
theorem Memory.ofCells_wf (cells : List Host.Cell) : (Memory.ofCells cells).wf = true := by
  unfold Memory.ofCells
  suffices h : ∀ m : Memory, m.wf = true →
      (cells.foldl (fun m c => Memory.write m c.1 c.2) m).wf = true from h [] rfl
  induction cells with
  | nil => exact fun m h => h
  | cons c cells ih => exact fun m h => ih _ (Memory.write_wf c.1 c.2 h)

theorem Memory.ofBytes_lower (base : Nat) (bs : List Byte) :
    ∀ c ∈ Memory.ofBytes base bs, base ≤ c.1 := by
  induction bs generalizing base with
  | nil => intro c hc; simp [Memory.ofBytes] at hc
  | cons v vs ih =>
    intro c hc
    unfold Memory.ofBytes at hc
    split at hc
    · exact Nat.le_of_succ_le (ih (base + 1) c hc)
    · rcases List.mem_cons.1 hc with rfl | hc
      · exact le_refl _
      · exact Nat.le_of_succ_le (ih (base + 1) c hc)

/-- A store built from a byte sequence is in canonical form. -/
theorem Memory.ofBytes_wf (base : Nat) (bs : List Byte) : (Memory.ofBytes base bs).wf = true := by
  induction bs generalizing base with
  | nil => rfl
  | cons v vs ih =>
    unfold Memory.ofBytes
    split
    · exact ih (base + 1)
    · rename_i hv
      exact (Memory.wf_cons _ _ _).2
        ⟨hv, fun c hc => Memory.ofBytes_lower (base + 1) vs c hc, ih (base + 1)⟩

/-- A store built from a byte sequence reads as that sequence. -/
theorem Memory.read_ofBytes (base : Nat) (bs : List Byte) (i : Nat) :
    (Memory.ofBytes base bs).read (base + i) = (bs[i]?).getD Config.unlisted := by
  induction bs generalizing base i with
  | nil => simp [Memory.ofBytes]
  | cons v vs ih =>
    unfold Memory.ofBytes
    cases i with
    | zero =>
      have below : ∀ m : Memory, (∀ c ∈ m, base + 1 ≤ c.1) → m.read base = Config.unlisted := by
        intro m
        induction m with
        | nil => exact fun _ => rfl
        | cons c m ihm =>
          intro hm
          have := hm c (by simp)
          have hne : c.1 ≠ base := by omega
          obtain ⟨k, w⟩ := c
          simp only [Memory.read]
          rw [if_neg hne]
          exact ihm fun c hc => hm c (by simp [hc])
      split
      · rename_i hv
        simpa [hv] using below _ (Memory.ofBytes_lower (base + 1) vs)
      · simp [Memory.read]
    | succ i =>
      have := ih (base + 1) i
      rw [show base + 1 + i = base + (i + 1) by omega] at this
      split
      · simpa using this
      · have hne : base ≠ base + (i + 1) := by omega
        simpa [Memory.read, hne] using this

/-- The three stores of the reset state have the canonical form. -/
theorem reset_wf :
    Memory.wf State.reset.mem = true ∧ Memory.wf State.reset.cartRam = true ∧
      Memory.wf State.reset.rom = true := ⟨rfl, rfl, rfl⟩

end Sys2Proof.Machine
end

