-- ==== Sys2Proof/Laws/State.lean ====
section
/-! SUPPORT. One lemma per field per named update, so that no proof unfolds a record update. -/

namespace Sys2Proof.Machine

@[simp] theorem set16_ir (s : State) (r : Reg16) (v : Word) : (s.set16 r v).ir = s.ir := by cases r <;> rfl
@[simp] theorem set16_ime (s : State) (r : Reg16) (v : Word) : (s.set16 r v).ime = s.ime := by cases r <;> rfl
@[simp] theorem set16_eiPending (s : State) (r : Reg16) (v : Word) : (s.set16 r v).eiPending = s.eiPending := by cases r <;> rfl
@[simp] theorem set16_halted (s : State) (r : Reg16) (v : Word) : (s.set16 r v).halted = s.halted := by cases r <;> rfl
@[simp] theorem set16_error (s : State) (r : Reg16) (v : Word) : (s.set16 r v).error = s.error := by cases r <;> rfl
@[simp] theorem set16_bank (s : State) (r : Reg16) (v : Word) : (s.set16 r v).bank = s.bank := by cases r <;> rfl
@[simp] theorem set16_mem (s : State) (r : Reg16) (v : Word) : (s.set16 r v).mem = s.mem := by cases r <;> rfl
@[simp] theorem set16_cartRam (s : State) (r : Reg16) (v : Word) : (s.set16 r v).cartRam = s.cartRam := by cases r <;> rfl
@[simp] theorem set16_rom (s : State) (r : Reg16) (v : Word) : (s.set16 r v).rom = s.rom := by cases r <;> rfl
@[simp] theorem set16_romBankCount (s : State) (r : Reg16) (v : Word) : (s.set16 r v).romBankCount = s.romBankCount := by cases r <;> rfl
@[simp] theorem set16_ramSize (s : State) (r : Reg16) (v : Word) : (s.set16 r v).ramSize = s.ramSize := by cases r <;> rfl
@[simp] theorem set16_hostInput (s : State) (r : Reg16) (v : Word) : (s.set16 r v).hostInput = s.hostInput := by cases r <;> rfl
@[simp] theorem set16_cycles (s : State) (r : Reg16) (v : Word) : (s.set16 r v).cycles = s.cycles := by cases r <;> rfl
@[simp] theorem set8_ir (s : State) (r : Reg8) (v : Byte) : (s.set8 r v).ir = s.ir := by cases r <;> rfl
@[simp] theorem set8_ime (s : State) (r : Reg8) (v : Byte) : (s.set8 r v).ime = s.ime := by cases r <;> rfl
@[simp] theorem set8_eiPending (s : State) (r : Reg8) (v : Byte) : (s.set8 r v).eiPending = s.eiPending := by cases r <;> rfl
@[simp] theorem set8_halted (s : State) (r : Reg8) (v : Byte) : (s.set8 r v).halted = s.halted := by cases r <;> rfl
@[simp] theorem set8_error (s : State) (r : Reg8) (v : Byte) : (s.set8 r v).error = s.error := by cases r <;> rfl
@[simp] theorem set8_bank (s : State) (r : Reg8) (v : Byte) : (s.set8 r v).bank = s.bank := by cases r <;> rfl
@[simp] theorem set8_mem (s : State) (r : Reg8) (v : Byte) : (s.set8 r v).mem = s.mem := by cases r <;> rfl
@[simp] theorem set8_cartRam (s : State) (r : Reg8) (v : Byte) : (s.set8 r v).cartRam = s.cartRam := by cases r <;> rfl
@[simp] theorem set8_rom (s : State) (r : Reg8) (v : Byte) : (s.set8 r v).rom = s.rom := by cases r <;> rfl
@[simp] theorem set8_romBankCount (s : State) (r : Reg8) (v : Byte) : (s.set8 r v).romBankCount = s.romBankCount := by cases r <;> rfl
@[simp] theorem set8_ramSize (s : State) (r : Reg8) (v : Byte) : (s.set8 r v).ramSize = s.ramSize := by cases r <;> rfl
@[simp] theorem set8_hostInput (s : State) (r : Reg8) (v : Byte) : (s.set8 r v).hostInput = s.hostInput := by cases r <;> rfl
@[simp] theorem set8_cycles (s : State) (r : Reg8) (v : Byte) : (s.set8 r v).cycles = s.cycles := by cases r <;> rfl
@[simp] theorem set8_sp (s : State) (r : Reg8) (v : Byte) : (s.set8 r v).sp = s.sp := by cases r <;> rfl
@[simp] theorem set8_pc (s : State) (r : Reg8) (v : Byte) : (s.set8 r v).pc = s.pc := by cases r <;> rfl
@[simp] theorem setAccFlags_ir (s : State) (r v : Byte) : (s.setAccFlags r v).ir = s.ir := by simp [State.setAccFlags]
@[simp] theorem setAccFlags_ime (s : State) (r v : Byte) : (s.setAccFlags r v).ime = s.ime := by simp [State.setAccFlags]
@[simp] theorem setAccFlags_eiPending (s : State) (r v : Byte) : (s.setAccFlags r v).eiPending = s.eiPending := by simp [State.setAccFlags]
@[simp] theorem setAccFlags_halted (s : State) (r v : Byte) : (s.setAccFlags r v).halted = s.halted := by simp [State.setAccFlags]
@[simp] theorem setAccFlags_error (s : State) (r v : Byte) : (s.setAccFlags r v).error = s.error := by simp [State.setAccFlags]
@[simp] theorem setAccFlags_bank (s : State) (r v : Byte) : (s.setAccFlags r v).bank = s.bank := by simp [State.setAccFlags]
@[simp] theorem setAccFlags_mem (s : State) (r v : Byte) : (s.setAccFlags r v).mem = s.mem := by simp [State.setAccFlags]
@[simp] theorem setAccFlags_cartRam (s : State) (r v : Byte) : (s.setAccFlags r v).cartRam = s.cartRam := by simp [State.setAccFlags]
@[simp] theorem setAccFlags_rom (s : State) (r v : Byte) : (s.setAccFlags r v).rom = s.rom := by simp [State.setAccFlags]
@[simp] theorem setAccFlags_romBankCount (s : State) (r v : Byte) : (s.setAccFlags r v).romBankCount = s.romBankCount := by simp [State.setAccFlags]
@[simp] theorem setAccFlags_ramSize (s : State) (r v : Byte) : (s.setAccFlags r v).ramSize = s.ramSize := by simp [State.setAccFlags]
@[simp] theorem setAccFlags_hostInput (s : State) (r v : Byte) : (s.setAccFlags r v).hostInput = s.hostInput := by simp [State.setAccFlags]
@[simp] theorem setAccFlags_cycles (s : State) (r v : Byte) : (s.setAccFlags r v).cycles = s.cycles := by simp [State.setAccFlags]
@[simp] theorem setAccFlags_sp (s : State) (r v : Byte) : (s.setAccFlags r v).sp = s.sp := by simp [State.setAccFlags]
@[simp] theorem setAccFlags_pc (s : State) (r v : Byte) : (s.setAccFlags r v).pc = s.pc := by simp [State.setAccFlags]
@[simp] theorem retired_af (len : Word) (cyc : Nat) (s : State) : (s.retired len cyc).af = s.af := rfl
@[simp] theorem retired_bc (len : Word) (cyc : Nat) (s : State) : (s.retired len cyc).bc = s.bc := rfl
@[simp] theorem retired_de (len : Word) (cyc : Nat) (s : State) : (s.retired len cyc).de = s.de := rfl
@[simp] theorem retired_hl (len : Word) (cyc : Nat) (s : State) : (s.retired len cyc).hl = s.hl := rfl
@[simp] theorem retired_sp (len : Word) (cyc : Nat) (s : State) : (s.retired len cyc).sp = s.sp := rfl
@[simp] theorem retired_pc (len : Word) (cyc : Nat) (s : State) : (s.retired len cyc).pc = s.pc + len := rfl
@[simp] theorem retired_ir (len : Word) (cyc : Nat) (s : State) : (s.retired len cyc).ir = s.ir := rfl
@[simp] theorem retired_ime (len : Word) (cyc : Nat) (s : State) : (s.retired len cyc).ime = s.ime := rfl
@[simp] theorem retired_eiPending (len : Word) (cyc : Nat) (s : State) : (s.retired len cyc).eiPending = s.eiPending := rfl
@[simp] theorem retired_halted (len : Word) (cyc : Nat) (s : State) : (s.retired len cyc).halted = s.halted := rfl
@[simp] theorem retired_error (len : Word) (cyc : Nat) (s : State) : (s.retired len cyc).error = s.error := rfl
@[simp] theorem retired_bank (len : Word) (cyc : Nat) (s : State) : (s.retired len cyc).bank = s.bank := rfl
@[simp] theorem retired_mem (len : Word) (cyc : Nat) (s : State) : (s.retired len cyc).mem = s.mem := rfl
@[simp] theorem retired_cartRam (len : Word) (cyc : Nat) (s : State) : (s.retired len cyc).cartRam = s.cartRam := rfl
@[simp] theorem retired_rom (len : Word) (cyc : Nat) (s : State) : (s.retired len cyc).rom = s.rom := rfl
@[simp] theorem retired_romBankCount (len : Word) (cyc : Nat) (s : State) : (s.retired len cyc).romBankCount = s.romBankCount := rfl
@[simp] theorem retired_ramSize (len : Word) (cyc : Nat) (s : State) : (s.retired len cyc).ramSize = s.ramSize := rfl
@[simp] theorem retired_hostInput (len : Word) (cyc : Nat) (s : State) : (s.retired len cyc).hostInput = s.hostInput := rfl
@[simp] theorem retired_cycles (len : Word) (cyc : Nat) (s : State) : (s.retired len cyc).cycles = cyc := rfl
@[simp] theorem jumped_af (target : Word) (cyc : Nat) (s : State) : (s.jumped target cyc).af = s.af := rfl
@[simp] theorem jumped_bc (target : Word) (cyc : Nat) (s : State) : (s.jumped target cyc).bc = s.bc := rfl
@[simp] theorem jumped_de (target : Word) (cyc : Nat) (s : State) : (s.jumped target cyc).de = s.de := rfl
@[simp] theorem jumped_hl (target : Word) (cyc : Nat) (s : State) : (s.jumped target cyc).hl = s.hl := rfl
@[simp] theorem jumped_sp (target : Word) (cyc : Nat) (s : State) : (s.jumped target cyc).sp = s.sp := rfl
@[simp] theorem jumped_pc (target : Word) (cyc : Nat) (s : State) : (s.jumped target cyc).pc = target := rfl
@[simp] theorem jumped_ir (target : Word) (cyc : Nat) (s : State) : (s.jumped target cyc).ir = s.ir := rfl
@[simp] theorem jumped_ime (target : Word) (cyc : Nat) (s : State) : (s.jumped target cyc).ime = s.ime := rfl
@[simp] theorem jumped_eiPending (target : Word) (cyc : Nat) (s : State) : (s.jumped target cyc).eiPending = s.eiPending := rfl
@[simp] theorem jumped_halted (target : Word) (cyc : Nat) (s : State) : (s.jumped target cyc).halted = s.halted := rfl
@[simp] theorem jumped_error (target : Word) (cyc : Nat) (s : State) : (s.jumped target cyc).error = s.error := rfl
@[simp] theorem jumped_bank (target : Word) (cyc : Nat) (s : State) : (s.jumped target cyc).bank = s.bank := rfl
@[simp] theorem jumped_mem (target : Word) (cyc : Nat) (s : State) : (s.jumped target cyc).mem = s.mem := rfl
@[simp] theorem jumped_cartRam (target : Word) (cyc : Nat) (s : State) : (s.jumped target cyc).cartRam = s.cartRam := rfl
@[simp] theorem jumped_rom (target : Word) (cyc : Nat) (s : State) : (s.jumped target cyc).rom = s.rom := rfl
@[simp] theorem jumped_romBankCount (target : Word) (cyc : Nat) (s : State) : (s.jumped target cyc).romBankCount = s.romBankCount := rfl
@[simp] theorem jumped_ramSize (target : Word) (cyc : Nat) (s : State) : (s.jumped target cyc).ramSize = s.ramSize := rfl
@[simp] theorem jumped_hostInput (target : Word) (cyc : Nat) (s : State) : (s.jumped target cyc).hostInput = s.hostInput := rfl
@[simp] theorem jumped_cycles (target : Word) (cyc : Nat) (s : State) : (s.jumped target cyc).cycles = cyc := rfl
@[simp] theorem hostPhase_af (s : State) : s.hostPhase.af = s.af := rfl
@[simp] theorem hostPhase_bc (s : State) : s.hostPhase.bc = s.bc := rfl
@[simp] theorem hostPhase_de (s : State) : s.hostPhase.de = s.de := rfl
@[simp] theorem hostPhase_hl (s : State) : s.hostPhase.hl = s.hl := rfl
@[simp] theorem hostPhase_sp (s : State) : s.hostPhase.sp = s.sp := rfl
@[simp] theorem hostPhase_pc (s : State) : s.hostPhase.pc = s.pc := rfl
@[simp] theorem hostPhase_ir (s : State) : s.hostPhase.ir = s.ir := rfl
@[simp] theorem hostPhase_ime (s : State) : s.hostPhase.ime = s.ime := rfl
@[simp] theorem hostPhase_eiPending (s : State) : s.hostPhase.eiPending = s.eiPending := rfl
@[simp] theorem hostPhase_halted (s : State) : s.hostPhase.halted = s.halted := rfl
@[simp] theorem hostPhase_error (s : State) : s.hostPhase.error = s.error := rfl
@[simp] theorem hostPhase_bank (s : State) : s.hostPhase.bank = s.bank := rfl
@[simp] theorem hostPhase_cartRam (s : State) : s.hostPhase.cartRam = s.cartRam := rfl
@[simp] theorem hostPhase_rom (s : State) : s.hostPhase.rom = s.rom := rfl
@[simp] theorem hostPhase_romBankCount (s : State) : s.hostPhase.romBankCount = s.romBankCount := rfl
@[simp] theorem hostPhase_ramSize (s : State) : s.hostPhase.ramSize = s.ramSize := rfl
@[simp] theorem hostPhase_cycles (s : State) : s.hostPhase.cycles = s.cycles := rfl
@[simp] theorem hostPhase_hostInput (s : State) : s.hostPhase.hostInput = s.hostInput.tail := rfl
@[simp] theorem recordError_af (s : State) (e : FatalError) : (s.recordError e).af = s.af := rfl
@[simp] theorem recordError_bc (s : State) (e : FatalError) : (s.recordError e).bc = s.bc := rfl
@[simp] theorem recordError_de (s : State) (e : FatalError) : (s.recordError e).de = s.de := rfl
@[simp] theorem recordError_hl (s : State) (e : FatalError) : (s.recordError e).hl = s.hl := rfl
@[simp] theorem recordError_sp (s : State) (e : FatalError) : (s.recordError e).sp = s.sp := rfl
@[simp] theorem recordError_pc (s : State) (e : FatalError) : (s.recordError e).pc = s.pc := rfl
@[simp] theorem recordError_ir (s : State) (e : FatalError) : (s.recordError e).ir = s.ir := rfl
@[simp] theorem recordError_ime (s : State) (e : FatalError) : (s.recordError e).ime = s.ime := rfl
@[simp] theorem recordError_eiPending (s : State) (e : FatalError) : (s.recordError e).eiPending = s.eiPending := rfl
@[simp] theorem recordError_halted (s : State) (e : FatalError) : (s.recordError e).halted = s.halted := rfl
@[simp] theorem recordError_error (s : State) (e : FatalError) : (s.recordError e).error = some e := rfl
@[simp] theorem recordError_bank (s : State) (e : FatalError) : (s.recordError e).bank = s.bank := rfl
@[simp] theorem recordError_mem (s : State) (e : FatalError) : (s.recordError e).mem = s.mem := rfl
@[simp] theorem recordError_cartRam (s : State) (e : FatalError) : (s.recordError e).cartRam = s.cartRam := rfl
@[simp] theorem recordError_rom (s : State) (e : FatalError) : (s.recordError e).rom = s.rom := rfl
@[simp] theorem recordError_romBankCount (s : State) (e : FatalError) : (s.recordError e).romBankCount = s.romBankCount := rfl
@[simp] theorem recordError_ramSize (s : State) (e : FatalError) : (s.recordError e).ramSize = s.ramSize := rfl
@[simp] theorem recordError_hostInput (s : State) (e : FatalError) : (s.recordError e).hostInput = s.hostInput := rfl
@[simp] theorem recordError_cycles (s : State) (e : FatalError) : (s.recordError e).cycles = s.cycles := rfl
@[simp] theorem interruptsOn_af (s : State) : s.interruptsOn.af = s.af := rfl
@[simp] theorem interruptsOn_bc (s : State) : s.interruptsOn.bc = s.bc := rfl
@[simp] theorem interruptsOn_de (s : State) : s.interruptsOn.de = s.de := rfl
@[simp] theorem interruptsOn_hl (s : State) : s.interruptsOn.hl = s.hl := rfl
@[simp] theorem interruptsOn_sp (s : State) : s.interruptsOn.sp = s.sp := rfl
@[simp] theorem interruptsOn_pc (s : State) : s.interruptsOn.pc = s.pc := rfl
@[simp] theorem interruptsOn_ir (s : State) : s.interruptsOn.ir = s.ir := rfl
@[simp] theorem interruptsOn_ime (s : State) : s.interruptsOn.ime = true := rfl
@[simp] theorem interruptsOn_eiPending (s : State) : s.interruptsOn.eiPending = false := rfl
@[simp] theorem interruptsOn_halted (s : State) : s.interruptsOn.halted = s.halted := rfl
@[simp] theorem interruptsOn_error (s : State) : s.interruptsOn.error = s.error := rfl
@[simp] theorem interruptsOn_bank (s : State) : s.interruptsOn.bank = s.bank := rfl
@[simp] theorem interruptsOn_mem (s : State) : s.interruptsOn.mem = s.mem := rfl
@[simp] theorem interruptsOn_cartRam (s : State) : s.interruptsOn.cartRam = s.cartRam := rfl
@[simp] theorem interruptsOn_rom (s : State) : s.interruptsOn.rom = s.rom := rfl
@[simp] theorem interruptsOn_romBankCount (s : State) : s.interruptsOn.romBankCount = s.romBankCount := rfl
@[simp] theorem interruptsOn_ramSize (s : State) : s.interruptsOn.ramSize = s.ramSize := rfl
@[simp] theorem interruptsOn_hostInput (s : State) : s.interruptsOn.hostInput = s.hostInput := rfl
@[simp] theorem interruptsOn_cycles (s : State) : s.interruptsOn.cycles = s.cycles := rfl
@[simp] theorem promoted_af (p : Bool) (s : State) : (s.promoted p).af = s.af := by unfold State.promoted; split <;> rfl
@[simp] theorem promoted_bc (p : Bool) (s : State) : (s.promoted p).bc = s.bc := by unfold State.promoted; split <;> rfl
@[simp] theorem promoted_de (p : Bool) (s : State) : (s.promoted p).de = s.de := by unfold State.promoted; split <;> rfl
@[simp] theorem promoted_hl (p : Bool) (s : State) : (s.promoted p).hl = s.hl := by unfold State.promoted; split <;> rfl
@[simp] theorem promoted_sp (p : Bool) (s : State) : (s.promoted p).sp = s.sp := by unfold State.promoted; split <;> rfl
@[simp] theorem promoted_pc (p : Bool) (s : State) : (s.promoted p).pc = s.pc := by unfold State.promoted; split <;> rfl
@[simp] theorem promoted_ir (p : Bool) (s : State) : (s.promoted p).ir = s.ir := by unfold State.promoted; split <;> rfl
@[simp] theorem promoted_halted (p : Bool) (s : State) : (s.promoted p).halted = s.halted := by unfold State.promoted; split <;> rfl
@[simp] theorem promoted_error (p : Bool) (s : State) : (s.promoted p).error = s.error := by unfold State.promoted; split <;> rfl
@[simp] theorem promoted_bank (p : Bool) (s : State) : (s.promoted p).bank = s.bank := by unfold State.promoted; split <;> rfl
@[simp] theorem promoted_mem (p : Bool) (s : State) : (s.promoted p).mem = s.mem := by unfold State.promoted; split <;> rfl
@[simp] theorem promoted_cartRam (p : Bool) (s : State) : (s.promoted p).cartRam = s.cartRam := by unfold State.promoted; split <;> rfl
@[simp] theorem promoted_rom (p : Bool) (s : State) : (s.promoted p).rom = s.rom := by unfold State.promoted; split <;> rfl
@[simp] theorem promoted_romBankCount (p : Bool) (s : State) : (s.promoted p).romBankCount = s.romBankCount := by unfold State.promoted; split <;> rfl
@[simp] theorem promoted_ramSize (p : Bool) (s : State) : (s.promoted p).ramSize = s.ramSize := by unfold State.promoted; split <;> rfl
@[simp] theorem promoted_hostInput (p : Bool) (s : State) : (s.promoted p).hostInput = s.hostInput := by unfold State.promoted; split <;> rfl
@[simp] theorem promoted_cycles (p : Bool) (s : State) : (s.promoted p).cycles = s.cycles := by unfold State.promoted; split <;> rfl
@[simp] theorem promoted_ime (p : Bool) (s : State) : (s.promoted p).ime = (s.ime || (p && s.eiPending)) := by
  cases p <;> cases h : s.eiPending <;> simp [State.promoted, h]
@[simp] theorem promoted_eiPending (p : Bool) (s : State) : (s.promoted p).eiPending = (s.eiPending && !p) := by
  cases p <;> cases h : s.eiPending <;> simp [State.promoted, h]
@[simp] theorem acknowledged_af (i : Nat) (s : State) : (s.acknowledged i).af = s.af := rfl
@[simp] theorem acknowledged_bc (i : Nat) (s : State) : (s.acknowledged i).bc = s.bc := rfl
@[simp] theorem acknowledged_de (i : Nat) (s : State) : (s.acknowledged i).de = s.de := rfl
@[simp] theorem acknowledged_hl (i : Nat) (s : State) : (s.acknowledged i).hl = s.hl := rfl
@[simp] theorem acknowledged_sp (i : Nat) (s : State) : (s.acknowledged i).sp = s.sp := rfl
@[simp] theorem acknowledged_ir (i : Nat) (s : State) : (s.acknowledged i).ir = s.ir := rfl
@[simp] theorem acknowledged_eiPending (i : Nat) (s : State) : (s.acknowledged i).eiPending = s.eiPending := rfl
@[simp] theorem acknowledged_halted (i : Nat) (s : State) : (s.acknowledged i).halted = s.halted := rfl
@[simp] theorem acknowledged_error (i : Nat) (s : State) : (s.acknowledged i).error = s.error := rfl
@[simp] theorem acknowledged_bank (i : Nat) (s : State) : (s.acknowledged i).bank = s.bank := rfl
@[simp] theorem acknowledged_cartRam (i : Nat) (s : State) : (s.acknowledged i).cartRam = s.cartRam := rfl
@[simp] theorem acknowledged_rom (i : Nat) (s : State) : (s.acknowledged i).rom = s.rom := rfl
@[simp] theorem acknowledged_romBankCount (i : Nat) (s : State) : (s.acknowledged i).romBankCount = s.romBankCount := rfl
@[simp] theorem acknowledged_ramSize (i : Nat) (s : State) : (s.acknowledged i).ramSize = s.ramSize := rfl
@[simp] theorem acknowledged_hostInput (i : Nat) (s : State) : (s.acknowledged i).hostInput = s.hostInput := rfl
@[simp] theorem acknowledged_ime (i : Nat) (s : State) : (s.acknowledged i).ime = false := rfl
@[simp] theorem acknowledged_pc (i : Nat) (s : State) : (s.acknowledged i).pc = vectorOf i := rfl
@[simp] theorem acknowledged_cycles (i : Nat) (s : State) : (s.acknowledged i).cycles = Config.dispatchCycles := rfl

end Sys2Proof.Machine
end

