-- ==== Sys2Proof/Laws/Registers.lean ====
section
/-! SUPPORT. The laws of the register file (10_state R41 to R45) and of the byte helpers. -/

namespace Sys2Proof

theorem getLsbD_mkWord (h l : Byte) (i : Nat) :
    (mkWord h l).getLsbD i = if i < 8 then l.getLsbD i else h.getLsbD (i - 8) :=
  BitVec.getLsbD_append

@[simp] theorem hiByte_mkWord (h l : Byte) : hiByte (mkWord h l) = h := by
  apply BitVec.eq_of_getLsbD_eq
  intro i hi
  simp [hiByte, getLsbD_mkWord, hi]

@[simp] theorem loByte_mkWord (h l : Byte) : loByte (mkWord h l) = l := by
  apply BitVec.eq_of_getLsbD_eq
  intro i hi
  simp [loByte, getLsbD_mkWord, hi]

@[simp] theorem mkWord_hiByte_loByte (v : Word) : mkWord (hiByte v) (loByte v) = v := by
  apply BitVec.eq_of_getLsbD_eq
  intro i hi
  rw [getLsbD_mkWord]
  by_cases h : i < 8
  · simp [h, loByte]
  · have h1 : 8 + (i - 8) = i := by omega
    have h2 : i - 8 < 8 := by omega
    simp [h, hiByte, h1, h2]

namespace Machine

theorem set16_get16 (s : State) (r : Reg16) (v : Word) :
    (s.set16 r v).get16 r = if r = .af then v &&& 0xFFF0 else v := by
  cases r <;> simp [State.set16, State.get16, BitVec.and_assoc]

theorem set16_get16_other (s : State) {r q : Reg16} (v : Word) (h : q ≠ r) :
    (s.set16 r v).get16 q = s.get16 q := by
  cases r <;> cases q <;> first | rfl | exact absurd rfl h

@[simp] theorem hiByte_and_mask (v : Word) : hiByte (v &&& 0xFFF0#16) = hiByte v := by
  ext i hi
  have h : ∀ i, i < 8 → (0xFFF0#16).getLsbD (8 + i) = true := by decide
  simp only [hiByte, BitVec.getElem_extractLsb', BitVec.getLsbD_and, h i hi, Bool.and_true]

@[simp] theorem loByte_and_mask (v : Word) : loByte (v &&& 0xFFF0#16) = loByte v &&& 0xF0#8 := by
  ext i hi
  have h : ∀ i, (h : i < 8) → (0xFFF0#16).getLsbD (0 + i) = (0xF0#8)[i] := by decide
  simp only [loByte, BitVec.getElem_extractLsb', BitVec.getElem_and, BitVec.getLsbD_and, h i hi]

/-- An 8-bit write is visible on the next read (R42), masked for F (R45). -/
theorem set8_get8 (s : State) (q : Reg8) (v : Byte) :
    (s.set8 q v).get8 q = if q = .f then v &&& 0xF0 else v := by
  cases q <;> simp [State.set8, State.get8, Reg8.isHigh, Reg8.pair, set16_get16]

/-- An 8-bit write leaves every other 8-bit register unchanged (R42). -/
theorem set8_get8_other (s : State) {q r : Reg8} (v : Byte) (h : r ≠ q) :
    (s.set8 q v).get8 r = s.get8 r := by
  cases q <;> cases r <;>
    first
      | exact absurd rfl h
      | rfl
      | (simp [State.set8, State.get8, Reg8.isHigh, Reg8.pair, set16_get16]; done)
      | simp [State.set8, State.get8, Reg8.isHigh, Reg8.pair, State.set16, State.get16,
          BitVec.and_assoc]

/-- Bits 3 to 0 of F always read as 0 (R44). -/
theorem flags_low_nibble (s : State) : s.get8 .f &&& 0x0F = 0 := by
  simp [State.get8, Reg8.isHigh, Reg8.pair, State.get16, BitVec.and_assoc]

@[simp] theorem retired_get8 (len : Word) (cyc : Nat) (s : State) (q : Reg8) :
    (s.retired len cyc).get8 q = s.get8 q := by cases q <;> rfl

@[simp] theorem jumped_get8 (target : Word) (cyc : Nat) (s : State) (q : Reg8) :
    (s.jumped target cyc).get8 q = s.get8 q := by cases q <;> rfl

@[simp] theorem hostPhase_get8 (s : State) (q : Reg8) : s.hostPhase.get8 q = s.get8 q := by
  cases q <;> rfl

@[simp] theorem promoted_get8 (p : Bool) (s : State) (q : Reg8) :
    (s.promoted p).get8 q = s.get8 q := by unfold State.promoted; split <;> cases q <;> rfl

end Machine

end Sys2Proof
end

