-- ==== Sys2Proof/Laws/Bus.lean ====
section
/-! SUPPORT. What a bus access can do, said once: what it depends on, what it leaves alone, and
the three things an accepted write can be (20_memory R92, R93). -/

namespace Sys2Proof.Machine

/-- A bus read depends on the bank controller, the backing stores and the cartridge alone. -/
theorem busRead_congr {s t : State} (hb : t.bank = s.bank) (hm : t.mem = s.mem)
    (hc : t.cartRam = s.cartRam) (hr : t.rom = s.rom) (hn : t.romBankCount = s.romBankCount)
    (hz : t.ramSize = s.ramSize) (a : Word) : t.busRead a = s.busRead a := by
  cases s
  cases t
  dsimp only at hb hm hc hr hn hz
  subst hb hm hc hr hn hz
  rfl

@[simp] theorem busRead_set16 (s : State) (r : Reg16) (v a : Word) :
    (s.set16 r v).busRead a = s.busRead a := by cases r <;> rfl

@[simp] theorem busRead_set8 (s : State) (r : Reg8) (v : Byte) (a : Word) :
    (s.set8 r v).busRead a = s.busRead a := by cases r <;> rfl

@[simp] theorem busRead_setAccFlags (s : State) (r f : Byte) (a : Word) :
    (s.setAccFlags r f).busRead a = s.busRead a := by simp [State.setAccFlags]

@[simp] theorem busRead_retired (len : Word) (cyc : Nat) (s : State) (a : Word) :
    (s.retired len cyc).busRead a = s.busRead a := rfl

@[simp] theorem busRead_jumped (target : Word) (cyc : Nat) (s : State) (a : Word) :
    (s.jumped target cyc).busRead a = s.busRead a := rfl

@[simp] theorem busRead_promoted (p : Bool) (s : State) (a : Word) :
    (s.promoted p).busRead a = s.busRead a := by unfold State.promoted; split <;> rfl

/-- A register write and a bus write commute. -/
theorem busWrite_set16 (s : State) (r : Reg16) (w a : Word) (v : Byte) :
    (s.set16 r w).busWrite a v = (s.busWrite a v).map (·.set16 r w) := by
  cases r <;> simp only [State.busWrite, State.controlWrite, State.cartRamIndex, State.set16] <;>
    cases regionOf a <;> simp only [Option.map_some, Option.map_none, Option.map_map] <;>
    cases s.bank <;> rfl

/-- What an accepted write is: a control write of an MBC1 below 0x8000, one byte of cartridge RAM,
or one byte of plain storage. -/
theorem busWrite_cases {s t : State} {a : Word} {v : Byte} (h : s.busWrite a v = some t) :
    ((regionOf a = .romFixed ∨ regionOf a = .romSwitch) ∧
      ∃ r, s.bank = .mbc1 r ∧ t = { s with bank := .mbc1 (r.control a v) }) ∨
    (regionOf a = .cartRam ∧
      ∃ i, s.cartRamIndex a = some i ∧ t = { s with cartRam := s.cartRam.write i v }) ∨
    ((regionOf a).isStorage = true ∧ t = { s with mem := s.mem.write a.toNat v }) := by
  unfold State.busWrite at h
  cases hr : regionOf a <;> simp only [hr] at h
  case romFixed | romSwitch =>
    refine .inl ⟨by simp, ?_⟩
    unfold State.controlWrite at h
    cases hb : s.bank with
    | romOnly => simp [hb] at h
    | mbc1 r => exact ⟨r, rfl, by simpa [hb] using h.symm⟩
  case cartRam =>
    obtain ⟨i, hi, ht⟩ := Option.map_eq_some_iff.1 h
    exact .inr (.inl ⟨rfl, i, hi, ht.symm⟩)
  case echo | unusable => cases h
  all_goals exact .inr (.inr ⟨rfl, (Option.some.inj h).symm⟩)

/-- An accepted write changes the bank controller, plain storage or cartridge RAM, nothing else. -/
theorem busWrite_only {s t : State} {a : Word} {v : Byte} (h : s.busWrite a v = some t) :
    t = { s with bank := t.bank, mem := t.mem, cartRam := t.cartRam } := by
  rcases busWrite_cases h with ⟨-, r, -, rfl⟩ | ⟨-, i, -, rfl⟩ | ⟨-, rfl⟩ <;> rfl

/-- The regions of plain storage are read from `mem` at the address. -/
theorem busRead_storage (s : State) {a : Word} (h : (regionOf a).isStorage = true) :
    s.busRead a = some (s.mem.read a.toNat) := by
  unfold State.busRead
  cases hr : regionOf a <;> simp [hr, Region.isStorage] at h ⊢

/-- The two reads of `pend` never fault (60_exceptions R460). -/
theorem busRead_ie (s : State) : s.busRead 0xFFFF = some (s.mem.read 0xFFFF) :=
  busRead_storage s (by decide)

theorem busRead_if (s : State) : s.busRead 0xFF0F = some (s.mem.read 0xFF0F) :=
  busRead_storage s (by decide)

/-- The host's writes keep the canonical form. -/
theorem hostWrites_wf {m : Memory} (ws : List HostWrite) (h : m.wf = true) :
    (m.hostWrites ws).wf = true := by
  unfold Memory.hostWrites
  induction ws generalizing m with
  | nil => exact h
  | cons w ws ih => exact ih (Memory.write_wf _ _ h)

/-- A host write changes one byte of the I/O range or of object attribute memory (R114). -/
theorem hostWrite_address (w : HostWrite) :
    (0xFF00 ≤ w.address ∧ w.address < 0xFF80) ∨ (0xFE00 ≤ w.address ∧ w.address < 0xFEA0) := by
  cases w with
  | io off v => exact .inl ⟨by simp [HostWrite.address], by simp [HostWrite.address]; omega⟩
  | oam off v => exact .inr ⟨by simp [HostWrite.address], by simp [HostWrite.address]; omega⟩

end Sys2Proof.Machine
end

