-- ==== Sys2Proof/Laws/Ops.lean ====
section
/-! SUPPORT. For each shared operation, everything it can do: if it answers a next state, then its
accesses succeeded and what follows it answered that state. -/

namespace Sys2Proof.Machine

theorem ensures_iff {P : State → Prop} {o : Out} :
    Ensures P o ↔ ∀ t, o = .next t → P t := by
  cases o <;> simp [Ensures]

theorem raise_next {e : FatalError} {t : State} : ¬raise e = .next t := by simp [raise]

theorem readByte_next {kind : AccessKind} {a : Word} {s t : State} {k : Byte → Out}
    (h : readByte kind a s k = .next t) : ∃ v, s.busRead a = some v ∧ k v = .next t := by
  unfold readByte at h
  split at h
  · exact ⟨_, ‹_›, h⟩
  · exact absurd h raise_next

theorem readByte_of_some {kind : AccessKind} {a : Word} {s : State} {k : Byte → Out} {v : Byte}
    (h : s.busRead a = some v) : readByte kind a s k = k v := by simp [readByte, h]

theorem readByte_of_none {kind : AccessKind} {a : Word} {s : State} {k : Byte → Out}
    (h : s.busRead a = none) :
    readByte kind a s k = .fault (.fatal (.unmappedAddressError a kind)) := by
  simp [readByte, h, raise]

theorem storeByte_next {a : Word} {v : Byte} {s t : State} {k : State → Out}
    (h : storeByte a v s k = .next t) : ∃ u, s.busWrite a v = some u ∧ k u = .next t := by
  unfold storeByte at h
  split at h
  · exact ⟨_, ‹_›, h⟩
  · exact absurd h raise_next

theorem storeByte_of_some {a : Word} {v : Byte} {s u : State} {k : State → Out}
    (h : s.busWrite a v = some u) : storeByte a v s k = k u := by simp [storeByte, h]

theorem storeByte_of_none {a : Word} {v : Byte} {s : State} {k : State → Out}
    (h : s.busWrite a v = none) :
    storeByte a v s k = .fault (.fatal (.unmappedAddressError a .write)) := by
  simp [storeByte, h, raise]

/-- A push is two accepted writes and SP moved down by two (R202). -/
theorem push16_next {v : Word} {s t : State} {k : State → Out} (h : push16 v s k = .next t) :
    ∃ u w, s.busWrite (s.sp - 1) (hiByte v) = some u ∧
      u.busWrite (s.sp - 2) (loByte v) = some w ∧ k (w.set16 .sp (s.sp - 2)) = .next t := by
  unfold push16 at h
  obtain ⟨u, hu, h⟩ := storeByte_next h
  obtain ⟨w, hw, h⟩ := storeByte_next h
  rw [busWrite_set16] at hu
  obtain ⟨u', hu', rfl⟩ := Option.map_eq_some_iff.1 hu
  have e : (u'.set16 .sp (s.sp - 1)).sp - 1 = s.sp - 2 := by
    show s.sp - 1 - 1 = s.sp - 2
    bv_omega
  rw [e, show (u'.set16 .sp (s.sp - 1)).set16 .sp (s.sp - 2) = u'.set16 .sp (s.sp - 2) from rfl,
    busWrite_set16] at hw
  obtain ⟨w', hw', rfl⟩ := Option.map_eq_some_iff.1 hw
  exact ⟨u', w', hu', hw', h⟩

/-- A push whose two writes are accepted goes on from the state they leave (R202). -/
theorem push16_of_some {v : Word} {s u w : State} {k : State → Out}
    (hu : s.busWrite (s.sp - 1) (hiByte v) = some u)
    (hw : u.busWrite (s.sp - 2) (loByte v) = some w) :
    push16 v s k = k (w.set16 .sp (s.sp - 2)) := by
  have e : (u.set16 .sp (s.sp - 1)).sp - 1 = s.sp - 2 := by
    show s.sp - 1 - 1 = s.sp - 2
    bv_omega
  unfold push16
  rw [storeByte_of_some (u := u.set16 .sp (s.sp - 1)) (by rw [busWrite_set16, hu]; rfl), e,
    show (u.set16 .sp (s.sp - 1)).set16 .sp (s.sp - 2) = u.set16 .sp (s.sp - 2) from rfl]
  exact storeByte_of_some (by rw [busWrite_set16, hw]; rfl)

/-- A pop is two reads and SP moved up by two (R202). -/
theorem pop16_next {s t : State} {k : Word → State → Out} (h : pop16 s k = .next t) :
    ∃ lo hi, s.busRead s.sp = some lo ∧ s.busRead (s.sp + 1) = some hi ∧
      k (mkWord hi lo) (s.set16 .sp (s.sp + 2)) = .next t := by
  unfold pop16 loadByte at h
  obtain ⟨lo, hlo, h⟩ := readByte_next h
  obtain ⟨hi, hhi, h⟩ := readByte_next h
  exact ⟨lo, hi, hlo, hhi, h⟩

theorem pop16_of_some {s : State} {k : Word → State → Out} {lo hi : Byte}
    (hlo : s.busRead s.sp = some lo) (hhi : s.busRead (s.sp + 1) = some hi) :
    pop16 s k = k (mkWord hi lo) (s.set16 .sp (s.sp + 2)) := by
  unfold pop16 loadByte
  rw [readByte_of_some hlo, readByte_of_some hhi]

/-- The latch reads the byte at PC into IR and changes nothing else (R198). -/
theorem latch_next {s t : State} (h : latch s = .next t) :
    ∃ b, s.busRead s.pc = some b ∧ t = { s with ir := b } := by
  obtain ⟨b, hb, h⟩ := readByte_next h
  exact ⟨b, hb, by simpa using h.symm⟩

theorem latch_of_some {s : State} {b : Byte} (h : s.busRead s.pc = some b) :
    latch s = .next { s with ir := b } := readByte_of_some h

/-- A dispatch pushes PC, acknowledges its line and latches (R462); SP was not 0 or 1 (R470). -/
theorem dispatch_next {s t : State} (h : dispatch s = .next t) :
    s.sp ≠ 0 ∧ s.sp ≠ 1 ∧ ∃ u w b, s.busWrite (s.sp - 1) (hiByte s.pc) = some u ∧
      u.busWrite (s.sp - 2) (loByte s.pc) = some w ∧
      ((w.set16 .sp (s.sp - 2)).acknowledged (lowestLine s.pend)).busRead
        (vectorOf (lowestLine s.pend)) = some b ∧
      t = { (w.set16 .sp (s.sp - 2)).acknowledged (lowestLine s.pend) with ir := b } := by
  unfold dispatch at h
  split at h
  · exact absurd h raise_next
  · rename_i hsp
    obtain ⟨u, w, hu, hw, h⟩ := push16_next h
    obtain ⟨b, hb, h⟩ := latch_next h
    exact ⟨fun e => hsp (.inl e), fun e => hsp (.inr e), u, w, b, hu, hw, hb, h⟩

/-- What ends an instruction step: the handler answered, a pending EI is promoted, and the byte at
the new PC is latched (R192). -/
theorem finish_next {p : Bool} {o : Out} {t : State} (h : finish p o = .next t) :
    ∃ u b, o = .next u ∧ u.busRead u.pc = some b ∧ t = { u.promoted p with ir := b } := by
  cases o with
  | next u =>
    obtain ⟨b, hb, rfl⟩ := latch_next h
    exact ⟨u, b, rfl, by simpa using hb, rfl⟩
  | fault r => cases h
  | refused r => cases h

/-- The operand fetches only read. -/
theorem fetchOperands_next {n : Nat} {s t : State} {k : Byte → Byte → Out}
    (h : fetchOperands n s k = .next t) : ∃ b1 b2, k b1 b2 = .next t := by
  unfold fetchOperands at h
  split at h
  · exact ⟨_, _, h⟩
  · obtain ⟨b, -, h⟩ := readByte_next h
    exact ⟨_, _, h⟩
  · obtain ⟨b, -, h⟩ := readByte_next h
    obtain ⟨c, -, h⟩ := readByte_next h
    exact ⟨_, _, h⟩

theorem instructionStep_next {s t : State} (h : instructionStep exec s = .next t) :
    ∃ b1 b2 u b, exec (decodeOp s.ir b1 b2) s = .next u ∧ u.busRead u.pc = some b ∧
      t = { u.promoted s.eiPending with ir := b } := by
  obtain ⟨b1, b2, h⟩ := fetchOperands_next h
  obtain ⟨u, b, hu, hb, rfl⟩ := finish_next h
  exact ⟨b1, b2, u, b, hu, hb, rfl⟩

/-- A step that answers a next state is an idle halted step, an interrupt dispatch or an
instruction step, from the state the host's writes leave, woken (R191, R192). -/
theorem step_cases {s t : State} (h : step s = .next t) :
    s.error = none ∧
    ((s.halted = true ∧ s.hostPhase.pend = 0 ∧
        t = { s.hostPhase with cycles := Config.idleCycles }) ∨
      (s.ime = true ∧ s.hostPhase.pend ≠ 0 ∧
        dispatch { s.hostPhase with halted := false } = .next t) ∨
      ((s.halted = true → s.hostPhase.pend ≠ 0) ∧ (s.ime = true → s.hostPhase.pend = 0) ∧
        instructionStep exec { s.hostPhase with halted := false } = .next t)) := by
  unfold step stepWith at h
  split at h
  · cases h
  · rename_i he
    refine ⟨he, ?_⟩
    unfold boundaryStep at h
    split at h
    · rename_i hh
      exact .inl ⟨hh.1, hh.2, by simpa using h.symm⟩
    · rename_i hh
      refine .inr ?_
      unfold awakeStep at h
      split at h
      · rename_i hd
        exact .inl ⟨hd.1, hd.2, h⟩
      · rename_i hd
        exact .inr ⟨fun h1 h2 => hh ⟨h1, h2⟩, fun h1 => not_not.1 fun h2 => hd ⟨h1, h2⟩, h⟩

theorem readR8_next {r : R8} {s t : State} {k : Byte → Out} (h : readR8 r s k = .next t) :
    ∃ v, k v = .next t ∧
      ((∃ q, r.reg = some q ∧ v = s.get8 q) ∨ (r.reg = none ∧ s.busRead s.hl = some v)) := by
  unfold readR8 at h
  split at h
  · rename_i q hq
    exact ⟨_, h, .inl ⟨q, hq, rfl⟩⟩
  · rename_i hq
    obtain ⟨v, hv, h⟩ := readByte_next h
    exact ⟨v, h, .inr ⟨hq, hv⟩⟩

theorem writeR8_next {r : R8} {v : Byte} {s t : State} {k : State → Out}
    (h : writeR8 r v s k = .next t) :
    ∃ u, k u = .next t ∧
      ((∃ q, r.reg = some q ∧ u = s.set8 q v) ∨ (r.reg = none ∧ s.busWrite s.hl v = some u)) := by
  unfold writeR8 at h
  split at h
  · rename_i q hq
    exact ⟨_, h, .inl ⟨q, hq, rfl⟩⟩
  · rename_i hq
    obtain ⟨u, hu, h⟩ := storeByte_next h
    exact ⟨u, h, .inr ⟨hq, hu⟩⟩

end Sys2Proof.Machine
end

