-- ==== Sys2Proof/Laws/Exec.lean ====
section
/-! SUPPORT. What the meanings can do, said once over all of them: a property kept by register
writes, accepted bus writes and the move of PC is kept by every instruction but DI, EI, RETI and
HALT, and by those too if it is kept by what they do to the engine control state. -/

namespace Sys2Proof.Machine

/-- A property of states that register writes, accepted bus writes and the end of a handler keep. -/
structure KeptCore (P : State → Prop) : Prop where
  set16 : ∀ {s} r v, P s → P (s.set16 r v)
  write : ∀ {s t a v}, P s → s.busWrite a v = some t → P t
  retired : ∀ {s} len cyc, P s → P (s.retired len cyc)
  jumped : ∀ {s} target cyc, P s → P (s.jumped target cyc)

namespace KeptCore

variable {P : State → Prop}

theorem set8 (hP : KeptCore P) {s : State} (r : Reg8) (v : Byte) (h : P s) : P (s.set8 r v) := by
  unfold State.set8
  split <;> exact hP.set16 _ _ h

theorem setAccFlags (hP : KeptCore P) {s : State} (r f : Byte) (h : P s) : P (s.setAccFlags r f) :=
  hP.set8 _ _ (hP.set8 _ _ h)

theorem retire (hP : KeptCore P) {s : State} (len : Word) (cyc : Nat) (h : P s) :
    Ensures P (retire len cyc s) := hP.retired len cyc h

theorem jumpTo (hP : KeptCore P) {s : State} (a : Word) (cyc : Nat) (h : P s) :
    Ensures P (jumpTo a cyc s) := hP.jumped a cyc h

theorem readByte {kind : AccessKind} {a : Word} {s : State} {k : Byte → Out}
    (h : ∀ v, Ensures P (k v)) : Ensures P (readByte kind a s k) :=
  ensures_iff.2 fun t ht => by
    obtain ⟨v, -, hk⟩ := readByte_next ht
    exact ensures_iff.1 (h v) t hk

theorem storeByte (hP : KeptCore P) {a : Word} {v : Byte} {s : State} {k : State → Out} (hs : P s)
    (h : ∀ u, P u → Ensures P (k u)) : Ensures P (storeByte a v s k) :=
  ensures_iff.2 fun t ht => by
    obtain ⟨u, hu, hk⟩ := storeByte_next ht
    exact ensures_iff.1 (h u (hP.write hs hu)) t hk

theorem push16 (hP : KeptCore P) {v : Word} {s : State} {k : State → Out} (hs : P s)
    (h : ∀ u, P u → Ensures P (k u)) : Ensures P (push16 v s k) :=
  hP.storeByte (hP.set16 _ _ hs) fun _ hu => hP.storeByte (hP.set16 _ _ hu) h

theorem pop16 (hP : KeptCore P) {s : State} {k : Word → State → Out} (hs : P s)
    (h : ∀ v u, P u → Ensures P (k v u)) : Ensures P (pop16 s k) :=
  readByte fun _ => readByte fun _ => h _ _ (hP.set16 _ _ hs)

theorem readR8 {r : R8} {s : State} {k : Byte → Out} (h : ∀ v, Ensures P (k v)) :
    Ensures P (readR8 r s k) :=
  ensures_iff.2 fun t ht => by
    obtain ⟨v, hk, -⟩ := readR8_next ht
    exact ensures_iff.1 (h v) t hk

theorem writeR8 (hP : KeptCore P) {r : R8} {v : Byte} {s : State} {k : State → Out} (hs : P s)
    (h : ∀ u, P u → Ensures P (k u)) : Ensures P (writeR8 r v s k) :=
  ensures_iff.2 fun t ht => by
    obtain ⟨u, hk, ⟨q, -, rfl⟩ | ⟨-, hu⟩⟩ := writeR8_next ht
    · exact ensures_iff.1 (h _ (hP.set8 q v hs)) t hk
    · exact ensures_iff.1 (h u (hP.write hs hu)) t hk

variable (hP : KeptCore P) {s : State} (hs : P s)
include hP hs

theorem loadR8 (dst r : R8) (c : Nat) : Ensures P (loadR8 dst r c s) :=
  readR8 fun _ => hP.writeR8 hs fun _ => hP.retire _ _

theorem loadR8Imm (dst : R8) (n : Byte) (c : Nat) : Ensures P (loadR8Imm dst n c s) :=
  hP.writeR8 hs fun _ => hP.retire _ _

theorem loadA (a l : Word) (c : Nat) : Ensures P (loadA a l c s) :=
  readByte fun _ => hP.retire _ _ (hP.set8 _ _ hs)

theorem storeA (a l : Word) (c : Nat) : Ensures P (storeA a l c s) :=
  hP.storeByte hs fun _ => hP.retire _ _

theorem loadAStep (d : Word) (c : Nat) : Ensures P (loadAStep d c s) :=
  readByte fun _ => hP.retire _ _ (hP.set16 _ _ (hP.set8 _ _ hs))

theorem storeAStep (d : Word) (c : Nat) : Ensures P (storeAStep d c s) :=
  hP.storeByte hs fun _ hu => hP.retire _ _ (hP.set16 _ _ hu)

theorem loadRp (r : Rp) (n : Word) (c : Nat) : Ensures P (loadRp r n c s) :=
  hP.retire _ _ (hP.set16 _ _ hs)

theorem storeSp (a : Word) (c : Nat) : Ensures P (storeSp a c s) :=
  hP.storeByte hs fun _ hu => hP.storeByte hu fun _ => hP.retire _ _

theorem pushRp2 (r : Rp2) (c : Nat) : Ensures P (pushRp2 r c s) :=
  hP.push16 hs fun _ => hP.retire _ _

theorem popRp2 (r : Rp2) (c : Nat) : Ensures P (popRp2 r c s) :=
  hP.pop16 hs fun _ _ hu => hP.retire _ _ (hP.set16 _ _ hu)

theorem accFlags (rf : Byte × Byte) (c : Nat) : Ensures P (accFlags rf c s) :=
  hP.retire _ _ (hP.setAccFlags _ _ hs)

theorem aluWritten (op : AluOp) (v : Byte) : P (s.aluWritten op v) := by
  unfold State.aluWritten
  cases op
  case cp => exact hP.set8 _ _ hs
  all_goals exact hP.setAccFlags _ _ hs

theorem aluR8 (op : AluOp) (r : R8) (c : Nat) : Ensures P (aluR8 op r c s) :=
  readR8 fun v => hP.retire _ _ (hP.aluWritten hs op v)

theorem aluImm (op : AluOp) (n : Byte) (c : Nat) : Ensures P (aluImm op n c s) :=
  hP.retire _ _ (hP.aluWritten hs op n)

theorem stepR8 (f : Byte → Byte → Byte × Byte) (r : R8) (c : Nat) : Ensures P (stepR8 f r c s) :=
  readR8 fun _ => hP.writeR8 hs fun _ hu => hP.retire _ _ (hP.set8 _ _ hu)

theorem addHl (r : Rp) (c : Nat) : Ensures P (addHl r c s) :=
  hP.retire _ _ (hP.set8 _ _ (hP.set16 _ _ hs))

theorem stepRp (d : Word) (r : Rp) (c : Nat) : Ensures P (stepRp d r c s) :=
  hP.retire _ _ (hP.set16 _ _ hs)

theorem spPlus (r : Rp) (e : Byte) (c : Nat) : Ensures P (spPlus r e c s) :=
  hP.retire _ _ (hP.set8 _ _ (hP.set16 _ _ hs))

theorem rotR8 (op : RotOp) (r : R8) (c : Nat) : Ensures P (rotR8 op r c s) :=
  readR8 fun _ => hP.writeR8 hs fun _ hu => hP.retire _ _ (hP.set8 _ _ hu)

theorem bitR8 (b : Fin 8) (r : R8) (c : Nat) : Ensures P (bitR8 b r c s) :=
  readR8 fun _ => hP.retire _ _ (hP.set8 _ _ hs)

theorem resR8 (b : Fin 8) (r : R8) (c : Nat) : Ensures P (resR8 b r c s) :=
  readR8 fun _ => hP.writeR8 hs fun _ => hP.retire _ _

theorem setR8 (b : Fin 8) (r : R8) (c : Nat) : Ensures P (setR8 b r c s) :=
  readR8 fun _ => hP.writeR8 hs fun _ => hP.retire _ _

theorem jumpIf (cc : Cond) (a l : Word) (c d : Nat) : Ensures P (jumpIf cc a l c d s) := by
  unfold Machine.jumpIf
  split
  · exact hP.jumpTo _ _ hs
  · exact hP.retire _ _ hs

theorem callTo (l a : Word) (c : Nat) : Ensures P (callTo l a c s) :=
  hP.push16 hs fun _ => hP.jumpTo _ _

theorem callIf (cc : Cond) (a : Word) (c d : Nat) : Ensures P (callIf cc a c d s) := by
  unfold Machine.callIf
  split
  · exact hP.callTo hs _ _ _
  · exact hP.retire _ _ hs

theorem returnFrom (c : Nat) : Ensures P (returnFrom c s) :=
  hP.pop16 hs fun _ _ => hP.jumpTo _ _

theorem returnIf (cc : Cond) (c d : Nat) : Ensures P (returnIf cc c d s) := by
  unfold Machine.returnIf
  split
  · exact hP.returnFrom hs _
  · exact hP.retire _ _ hs

theorem secondary (o : Byte) : Ensures P (secondary o s) := by
  unfold Machine.secondary
  dsimp only
  split
  · exact hP.rotR8 hs _ _ _
  · exact hP.bitR8 hs _ _ _
  · exact hP.resR8 hs _ _ _
  · exact hP.setR8 hs _ _ _

end KeptCore

/-- DI, EI, RETI and HALT, the four instructions that write the engine control state (R465). -/
def isControlInstr (i : Instr) : Bool := decide (i ∈ [Instr.di, .ei, .reti, .halt])

/-- Every instruction but the four control instructions keeps what register writes, bus writes and
the move of PC keep. -/
theorem exec_keeps_core {P : State → Prop} (hP : KeptCore P) (i : Instr) (s : State)
    (hi : isControlInstr i = false) (hs : P s) : Ensures P (exec i s) := by
  cases i with
  | ld_bc_d16 nn => exact hP.loadRp hs .bc nn 3
  | ld_b_d8 n => exact hP.loadR8Imm hs .b n 2
  | ld_ma16_sp nn => exact hP.storeSp hs nn 5
  | ld_c_d8 n => exact hP.loadR8Imm hs .c n 2
  | ld_de_d16 nn => exact hP.loadRp hs .de nn 3
  | ld_d_d8 n => exact hP.loadR8Imm hs .d n 2
  | jr_e8 e => exact hP.jumpTo (s.pc + 2 + sext16 e) 3 hs
  | ld_e_d8 n => exact hP.loadR8Imm hs .e n 2
  | jr_nz_e8 e => exact hP.jumpIf hs .nz (s.pc + 2 + sext16 e) 2 2 3
  | ld_hl_d16 nn => exact hP.loadRp hs .hl nn 3
  | ld_h_d8 n => exact hP.loadR8Imm hs .h n 2
  | jr_z_e8 e => exact hP.jumpIf hs .z (s.pc + 2 + sext16 e) 2 2 3
  | ld_l_d8 n => exact hP.loadR8Imm hs .l n 2
  | jr_nc_e8 e => exact hP.jumpIf hs .nc (s.pc + 2 + sext16 e) 2 2 3
  | ld_sp_d16 nn => exact hP.loadRp hs .sp nn 3
  | ld_mhl_d8 n => exact hP.loadR8Imm hs .mhl n 3
  | jr_c_e8 e => exact hP.jumpIf hs .c (s.pc + 2 + sext16 e) 2 2 3
  | ld_a_d8 n => exact hP.loadR8Imm hs .a n 2
  | jp_nz_a16 nn => exact hP.jumpIf hs .nz nn 3 3 4
  | jp_a16 nn => exact hP.jumpTo nn 4 hs
  | call_nz_a16 nn => exact hP.callIf hs .nz nn 3 6
  | add_a_d8 n => exact hP.aluImm hs .add n 2
  | jp_z_a16 nn => exact hP.jumpIf hs .z nn 3 3 4
  | call_z_a16 nn => exact hP.callIf hs .z nn 3 6
  | call_a16 nn => exact hP.callTo hs 3 nn 6
  | adc_a_d8 n => exact hP.aluImm hs .adc n 2
  | jp_nc_a16 nn => exact hP.jumpIf hs .nc nn 3 3 4
  | call_nc_a16 nn => exact hP.callIf hs .nc nn 3 6
  | sub_d8 n => exact hP.aluImm hs .sub n 2
  | jp_c_a16 nn => exact hP.jumpIf hs .c nn 3 3 4
  | call_c_a16 nn => exact hP.callIf hs .c nn 3 6
  | sbc_a_d8 n => exact hP.aluImm hs .sbc n 2
  | ldh_ma8_a n => exact hP.storeA hs (highPage n) 2 3
  | and_d8 n => exact hP.aluImm hs .and n 2
  | add_sp_e8 e => exact hP.spPlus hs .sp e 4
  | ld_ma16_a nn => exact hP.storeA hs nn 3 4
  | xor_d8 n => exact hP.aluImm hs .xor n 2
  | ldh_a_ma8 n => exact hP.loadA hs (highPage n) 2 3
  | or_d8 n => exact hP.aluImm hs .or n 2
  | ld_hl_sp_e8 e => exact hP.spPlus hs .hl e 3
  | ld_a_ma16 nn => exact hP.loadA hs nn 3 4
  | cp_d8 n => exact hP.aluImm hs .cp n 2
  | nop => exact hP.retire _ _ hs
  | ld_mbc_a => exact hP.storeA hs s.bc 1 2
  | inc_bc => exact hP.stepRp hs 1 .bc 2
  | inc_b => exact hP.stepR8 hs aluInc8 .b 1
  | dec_b => exact hP.stepR8 hs aluDec8 .b 1
  | rlca => exact hP.accFlags hs (aluRotA .rlc s.acc s.flags) 1
  | add_hl_bc => exact hP.addHl hs .bc 2
  | ld_a_mbc => exact hP.loadA hs s.bc 1 2
  | dec_bc => exact hP.stepRp hs (-1) .bc 2
  | inc_c => exact hP.stepR8 hs aluInc8 .c 1
  | dec_c => exact hP.stepR8 hs aluDec8 .c 1
  | rrca => exact hP.accFlags hs (aluRotA .rrc s.acc s.flags) 1
  | stop => trivial
  | ld_mde_a => exact hP.storeA hs s.de 1 2
  | inc_de => exact hP.stepRp hs 1 .de 2
  | inc_d => exact hP.stepR8 hs aluInc8 .d 1
  | dec_d => exact hP.stepR8 hs aluDec8 .d 1
  | rla => exact hP.accFlags hs (aluRotA .rl s.acc s.flags) 1
  | add_hl_de => exact hP.addHl hs .de 2
  | ld_a_mde => exact hP.loadA hs s.de 1 2
  | dec_de => exact hP.stepRp hs (-1) .de 2
  | inc_e => exact hP.stepR8 hs aluInc8 .e 1
  | dec_e => exact hP.stepR8 hs aluDec8 .e 1
  | rra => exact hP.accFlags hs (aluRotA .rr s.acc s.flags) 1
  | ld_mhli_a => exact hP.storeAStep hs 1 2
  | inc_hl => exact hP.stepRp hs 1 .hl 2
  | inc_h => exact hP.stepR8 hs aluInc8 .h 1
  | dec_h => exact hP.stepR8 hs aluDec8 .h 1
  | daa => exact hP.accFlags hs (aluDaa s.acc s.flags) 1
  | add_hl_hl => exact hP.addHl hs .hl 2
  | ld_a_mhli => exact hP.loadAStep hs 1 2
  | dec_hl => exact hP.stepRp hs (-1) .hl 2
  | inc_l => exact hP.stepR8 hs aluInc8 .l 1
  | dec_l => exact hP.stepR8 hs aluDec8 .l 1
  | cpl => exact hP.accFlags hs (aluCpl s.acc s.flags) 1
  | ld_mhld_a => exact hP.storeAStep hs (-1) 2
  | inc_sp => exact hP.stepRp hs 1 .sp 2
  | inc_mhl => exact hP.stepR8 hs aluInc8 .mhl 3
  | dec_mhl => exact hP.stepR8 hs aluDec8 .mhl 3
  | scf => exact hP.retire _ _ (hP.set8 _ _ hs)
  | add_hl_sp => exact hP.addHl hs .sp 2
  | ld_a_mhld => exact hP.loadAStep hs (-1) 2
  | dec_sp => exact hP.stepRp hs (-1) .sp 2
  | inc_a => exact hP.stepR8 hs aluInc8 .a 1
  | dec_a => exact hP.stepR8 hs aluDec8 .a 1
  | ccf => exact hP.retire _ _ (hP.set8 _ _ hs)
  | ld_b_b => exact hP.loadR8 hs .b .b 1
  | ld_b_c => exact hP.loadR8 hs .b .c 1
  | ld_b_d => exact hP.loadR8 hs .b .d 1
  | ld_b_e => exact hP.loadR8 hs .b .e 1
  | ld_b_h => exact hP.loadR8 hs .b .h 1
  | ld_b_l => exact hP.loadR8 hs .b .l 1
  | ld_b_mhl => exact hP.loadR8 hs .b .mhl 2
  | ld_b_a => exact hP.loadR8 hs .b .a 1
  | ld_c_b => exact hP.loadR8 hs .c .b 1
  | ld_c_c => exact hP.loadR8 hs .c .c 1
  | ld_c_d => exact hP.loadR8 hs .c .d 1
  | ld_c_e => exact hP.loadR8 hs .c .e 1
  | ld_c_h => exact hP.loadR8 hs .c .h 1
  | ld_c_l => exact hP.loadR8 hs .c .l 1
  | ld_c_mhl => exact hP.loadR8 hs .c .mhl 2
  | ld_c_a => exact hP.loadR8 hs .c .a 1
  | ld_d_b => exact hP.loadR8 hs .d .b 1
  | ld_d_c => exact hP.loadR8 hs .d .c 1
  | ld_d_d => exact hP.loadR8 hs .d .d 1
  | ld_d_e => exact hP.loadR8 hs .d .e 1
  | ld_d_h => exact hP.loadR8 hs .d .h 1
  | ld_d_l => exact hP.loadR8 hs .d .l 1
  | ld_d_mhl => exact hP.loadR8 hs .d .mhl 2
  | ld_d_a => exact hP.loadR8 hs .d .a 1
  | ld_e_b => exact hP.loadR8 hs .e .b 1
  | ld_e_c => exact hP.loadR8 hs .e .c 1
  | ld_e_d => exact hP.loadR8 hs .e .d 1
  | ld_e_e => exact hP.loadR8 hs .e .e 1
  | ld_e_h => exact hP.loadR8 hs .e .h 1
  | ld_e_l => exact hP.loadR8 hs .e .l 1
  | ld_e_mhl => exact hP.loadR8 hs .e .mhl 2
  | ld_e_a => exact hP.loadR8 hs .e .a 1
  | ld_h_b => exact hP.loadR8 hs .h .b 1
  | ld_h_c => exact hP.loadR8 hs .h .c 1
  | ld_h_d => exact hP.loadR8 hs .h .d 1
  | ld_h_e => exact hP.loadR8 hs .h .e 1
  | ld_h_h => exact hP.loadR8 hs .h .h 1
  | ld_h_l => exact hP.loadR8 hs .h .l 1
  | ld_h_mhl => exact hP.loadR8 hs .h .mhl 2
  | ld_h_a => exact hP.loadR8 hs .h .a 1
  | ld_l_b => exact hP.loadR8 hs .l .b 1
  | ld_l_c => exact hP.loadR8 hs .l .c 1
  | ld_l_d => exact hP.loadR8 hs .l .d 1
  | ld_l_e => exact hP.loadR8 hs .l .e 1
  | ld_l_h => exact hP.loadR8 hs .l .h 1
  | ld_l_l => exact hP.loadR8 hs .l .l 1
  | ld_l_mhl => exact hP.loadR8 hs .l .mhl 2
  | ld_l_a => exact hP.loadR8 hs .l .a 1
  | ld_mhl_b => exact hP.loadR8 hs .mhl .b 2
  | ld_mhl_c => exact hP.loadR8 hs .mhl .c 2
  | ld_mhl_d => exact hP.loadR8 hs .mhl .d 2
  | ld_mhl_e => exact hP.loadR8 hs .mhl .e 2
  | ld_mhl_h => exact hP.loadR8 hs .mhl .h 2
  | ld_mhl_l => exact hP.loadR8 hs .mhl .l 2
  | halt => exact absurd hi (by decide)
  | ld_mhl_a => exact hP.loadR8 hs .mhl .a 2
  | ld_a_b => exact hP.loadR8 hs .a .b 1
  | ld_a_c => exact hP.loadR8 hs .a .c 1
  | ld_a_d => exact hP.loadR8 hs .a .d 1
  | ld_a_e => exact hP.loadR8 hs .a .e 1
  | ld_a_h => exact hP.loadR8 hs .a .h 1
  | ld_a_l => exact hP.loadR8 hs .a .l 1
  | ld_a_mhl => exact hP.loadR8 hs .a .mhl 2
  | ld_a_a => exact hP.loadR8 hs .a .a 1
  | add_a_b => exact hP.aluR8 hs .add .b 1
  | add_a_c => exact hP.aluR8 hs .add .c 1
  | add_a_d => exact hP.aluR8 hs .add .d 1
  | add_a_e => exact hP.aluR8 hs .add .e 1
  | add_a_h => exact hP.aluR8 hs .add .h 1
  | add_a_l => exact hP.aluR8 hs .add .l 1
  | add_a_mhl => exact hP.aluR8 hs .add .mhl 2
  | add_a_a => exact hP.aluR8 hs .add .a 1
  | adc_a_b => exact hP.aluR8 hs .adc .b 1
  | adc_a_c => exact hP.aluR8 hs .adc .c 1
  | adc_a_d => exact hP.aluR8 hs .adc .d 1
  | adc_a_e => exact hP.aluR8 hs .adc .e 1
  | adc_a_h => exact hP.aluR8 hs .adc .h 1
  | adc_a_l => exact hP.aluR8 hs .adc .l 1
  | adc_a_mhl => exact hP.aluR8 hs .adc .mhl 2
  | adc_a_a => exact hP.aluR8 hs .adc .a 1
  | sub_b => exact hP.aluR8 hs .sub .b 1
  | sub_c => exact hP.aluR8 hs .sub .c 1
  | sub_d => exact hP.aluR8 hs .sub .d 1
  | sub_e => exact hP.aluR8 hs .sub .e 1
  | sub_h => exact hP.aluR8 hs .sub .h 1
  | sub_l => exact hP.aluR8 hs .sub .l 1
  | sub_mhl => exact hP.aluR8 hs .sub .mhl 2
  | sub_a => exact hP.aluR8 hs .sub .a 1
  | sbc_a_b => exact hP.aluR8 hs .sbc .b 1
  | sbc_a_c => exact hP.aluR8 hs .sbc .c 1
  | sbc_a_d => exact hP.aluR8 hs .sbc .d 1
  | sbc_a_e => exact hP.aluR8 hs .sbc .e 1
  | sbc_a_h => exact hP.aluR8 hs .sbc .h 1
  | sbc_a_l => exact hP.aluR8 hs .sbc .l 1
  | sbc_a_mhl => exact hP.aluR8 hs .sbc .mhl 2
  | sbc_a_a => exact hP.aluR8 hs .sbc .a 1
  | and_b => exact hP.aluR8 hs .and .b 1
  | and_c => exact hP.aluR8 hs .and .c 1
  | and_d => exact hP.aluR8 hs .and .d 1
  | and_e => exact hP.aluR8 hs .and .e 1
  | and_h => exact hP.aluR8 hs .and .h 1
  | and_l => exact hP.aluR8 hs .and .l 1
  | and_mhl => exact hP.aluR8 hs .and .mhl 2
  | and_a => exact hP.aluR8 hs .and .a 1
  | xor_b => exact hP.aluR8 hs .xor .b 1
  | xor_c => exact hP.aluR8 hs .xor .c 1
  | xor_d => exact hP.aluR8 hs .xor .d 1
  | xor_e => exact hP.aluR8 hs .xor .e 1
  | xor_h => exact hP.aluR8 hs .xor .h 1
  | xor_l => exact hP.aluR8 hs .xor .l 1
  | xor_mhl => exact hP.aluR8 hs .xor .mhl 2
  | xor_a => exact hP.aluR8 hs .xor .a 1
  | or_b => exact hP.aluR8 hs .or .b 1
  | or_c => exact hP.aluR8 hs .or .c 1
  | or_d => exact hP.aluR8 hs .or .d 1
  | or_e => exact hP.aluR8 hs .or .e 1
  | or_h => exact hP.aluR8 hs .or .h 1
  | or_l => exact hP.aluR8 hs .or .l 1
  | or_mhl => exact hP.aluR8 hs .or .mhl 2
  | or_a => exact hP.aluR8 hs .or .a 1
  | cp_b => exact hP.aluR8 hs .cp .b 1
  | cp_c => exact hP.aluR8 hs .cp .c 1
  | cp_d => exact hP.aluR8 hs .cp .d 1
  | cp_e => exact hP.aluR8 hs .cp .e 1
  | cp_h => exact hP.aluR8 hs .cp .h 1
  | cp_l => exact hP.aluR8 hs .cp .l 1
  | cp_mhl => exact hP.aluR8 hs .cp .mhl 2
  | cp_a => exact hP.aluR8 hs .cp .a 1
  | ret_nz => exact hP.returnIf hs .nz 2 5
  | pop_bc => exact hP.popRp2 hs .bc 3
  | push_bc => exact hP.pushRp2 hs .bc 4
  | rst_00 => exact hP.callTo hs 1 0x00 4
  | ret_z => exact hP.returnIf hs .z 2 5
  | ret => exact hP.returnFrom hs 4
  | prefix_cb => exact KeptCore.readByte fun o => hP.secondary hs o
  | rst_08 => exact hP.callTo hs 1 0x08 4
  | ret_nc => exact hP.returnIf hs .nc 2 5
  | pop_de => exact hP.popRp2 hs .de 3
  | illegal_d3 => trivial
  | push_de => exact hP.pushRp2 hs .de 4
  | rst_10 => exact hP.callTo hs 1 0x10 4
  | ret_c => exact hP.returnIf hs .c 2 5
  | reti => exact absurd hi (by decide)
  | illegal_db => trivial
  | illegal_dd => trivial
  | rst_18 => exact hP.callTo hs 1 0x18 4
  | pop_hl => exact hP.popRp2 hs .hl 3
  | ld_mc_a => exact hP.storeA hs (highPage (s.get8 .c)) 1 2
  | illegal_e3 => trivial
  | illegal_e4 => trivial
  | push_hl => exact hP.pushRp2 hs .hl 4
  | rst_20 => exact hP.callTo hs 1 0x20 4
  | jp_hl => exact hP.jumpTo s.hl 1 hs
  | illegal_eb => trivial
  | illegal_ec => trivial
  | illegal_ed => trivial
  | rst_28 => exact hP.callTo hs 1 0x28 4
  | pop_af => exact hP.popRp2 hs .af 3
  | ld_a_mc => exact hP.loadA hs (highPage (s.get8 .c)) 1 2
  | di => exact absurd hi (by decide)
  | illegal_f4 => trivial
  | push_af => exact hP.pushRp2 hs .af 4
  | rst_30 => exact hP.callTo hs 1 0x30 4
  | ld_sp_hl => exact hP.retire _ _ (hP.set16 _ _ hs)
  | ei => exact absurd hi (by decide)
  | illegal_fc => trivial
  | illegal_fd => trivial
  | rst_38 => exact hP.callTo hs 1 0x38 4
  | rlc_b => exact hP.rotR8 hs .rlc .b 2
  | rlc_c => exact hP.rotR8 hs .rlc .c 2
  | rlc_d => exact hP.rotR8 hs .rlc .d 2
  | rlc_e => exact hP.rotR8 hs .rlc .e 2
  | rlc_h => exact hP.rotR8 hs .rlc .h 2
  | rlc_l => exact hP.rotR8 hs .rlc .l 2
  | rlc_mhl => exact hP.rotR8 hs .rlc .mhl 4
  | rlc_a => exact hP.rotR8 hs .rlc .a 2
  | rrc_b => exact hP.rotR8 hs .rrc .b 2
  | rrc_c => exact hP.rotR8 hs .rrc .c 2
  | rrc_d => exact hP.rotR8 hs .rrc .d 2
  | rrc_e => exact hP.rotR8 hs .rrc .e 2
  | rrc_h => exact hP.rotR8 hs .rrc .h 2
  | rrc_l => exact hP.rotR8 hs .rrc .l 2
  | rrc_mhl => exact hP.rotR8 hs .rrc .mhl 4
  | rrc_a => exact hP.rotR8 hs .rrc .a 2
  | rl_b => exact hP.rotR8 hs .rl .b 2
  | rl_c => exact hP.rotR8 hs .rl .c 2
  | rl_d => exact hP.rotR8 hs .rl .d 2
  | rl_e => exact hP.rotR8 hs .rl .e 2
  | rl_h => exact hP.rotR8 hs .rl .h 2
  | rl_l => exact hP.rotR8 hs .rl .l 2
  | rl_mhl => exact hP.rotR8 hs .rl .mhl 4
  | rl_a => exact hP.rotR8 hs .rl .a 2
  | rr_b => exact hP.rotR8 hs .rr .b 2
  | rr_c => exact hP.rotR8 hs .rr .c 2
  | rr_d => exact hP.rotR8 hs .rr .d 2
  | rr_e => exact hP.rotR8 hs .rr .e 2
  | rr_h => exact hP.rotR8 hs .rr .h 2
  | rr_l => exact hP.rotR8 hs .rr .l 2
  | rr_mhl => exact hP.rotR8 hs .rr .mhl 4
  | rr_a => exact hP.rotR8 hs .rr .a 2
  | sla_b => exact hP.rotR8 hs .sla .b 2
  | sla_c => exact hP.rotR8 hs .sla .c 2
  | sla_d => exact hP.rotR8 hs .sla .d 2
  | sla_e => exact hP.rotR8 hs .sla .e 2
  | sla_h => exact hP.rotR8 hs .sla .h 2
  | sla_l => exact hP.rotR8 hs .sla .l 2
  | sla_mhl => exact hP.rotR8 hs .sla .mhl 4
  | sla_a => exact hP.rotR8 hs .sla .a 2
  | sra_b => exact hP.rotR8 hs .sra .b 2
  | sra_c => exact hP.rotR8 hs .sra .c 2
  | sra_d => exact hP.rotR8 hs .sra .d 2
  | sra_e => exact hP.rotR8 hs .sra .e 2
  | sra_h => exact hP.rotR8 hs .sra .h 2
  | sra_l => exact hP.rotR8 hs .sra .l 2
  | sra_mhl => exact hP.rotR8 hs .sra .mhl 4
  | sra_a => exact hP.rotR8 hs .sra .a 2
  | swap_b => exact hP.rotR8 hs .swap .b 2
  | swap_c => exact hP.rotR8 hs .swap .c 2
  | swap_d => exact hP.rotR8 hs .swap .d 2
  | swap_e => exact hP.rotR8 hs .swap .e 2
  | swap_h => exact hP.rotR8 hs .swap .h 2
  | swap_l => exact hP.rotR8 hs .swap .l 2
  | swap_mhl => exact hP.rotR8 hs .swap .mhl 4
  | swap_a => exact hP.rotR8 hs .swap .a 2
  | srl_b => exact hP.rotR8 hs .srl .b 2
  | srl_c => exact hP.rotR8 hs .srl .c 2
  | srl_d => exact hP.rotR8 hs .srl .d 2
  | srl_e => exact hP.rotR8 hs .srl .e 2
  | srl_h => exact hP.rotR8 hs .srl .h 2
  | srl_l => exact hP.rotR8 hs .srl .l 2
  | srl_mhl => exact hP.rotR8 hs .srl .mhl 4
  | srl_a => exact hP.rotR8 hs .srl .a 2
  | bit_0_b => exact hP.bitR8 hs 0 .b 2
  | bit_0_c => exact hP.bitR8 hs 0 .c 2
  | bit_0_d => exact hP.bitR8 hs 0 .d 2
  | bit_0_e => exact hP.bitR8 hs 0 .e 2
  | bit_0_h => exact hP.bitR8 hs 0 .h 2
  | bit_0_l => exact hP.bitR8 hs 0 .l 2
  | bit_0_mhl => exact hP.bitR8 hs 0 .mhl 3
  | bit_0_a => exact hP.bitR8 hs 0 .a 2
  | bit_1_b => exact hP.bitR8 hs 1 .b 2
  | bit_1_c => exact hP.bitR8 hs 1 .c 2
  | bit_1_d => exact hP.bitR8 hs 1 .d 2
  | bit_1_e => exact hP.bitR8 hs 1 .e 2
  | bit_1_h => exact hP.bitR8 hs 1 .h 2
  | bit_1_l => exact hP.bitR8 hs 1 .l 2
  | bit_1_mhl => exact hP.bitR8 hs 1 .mhl 3
  | bit_1_a => exact hP.bitR8 hs 1 .a 2
  | bit_2_b => exact hP.bitR8 hs 2 .b 2
  | bit_2_c => exact hP.bitR8 hs 2 .c 2
  | bit_2_d => exact hP.bitR8 hs 2 .d 2
  | bit_2_e => exact hP.bitR8 hs 2 .e 2
  | bit_2_h => exact hP.bitR8 hs 2 .h 2
  | bit_2_l => exact hP.bitR8 hs 2 .l 2
  | bit_2_mhl => exact hP.bitR8 hs 2 .mhl 3
  | bit_2_a => exact hP.bitR8 hs 2 .a 2
  | bit_3_b => exact hP.bitR8 hs 3 .b 2
  | bit_3_c => exact hP.bitR8 hs 3 .c 2
  | bit_3_d => exact hP.bitR8 hs 3 .d 2
  | bit_3_e => exact hP.bitR8 hs 3 .e 2
  | bit_3_h => exact hP.bitR8 hs 3 .h 2
  | bit_3_l => exact hP.bitR8 hs 3 .l 2
  | bit_3_mhl => exact hP.bitR8 hs 3 .mhl 3
  | bit_3_a => exact hP.bitR8 hs 3 .a 2
  | bit_4_b => exact hP.bitR8 hs 4 .b 2
  | bit_4_c => exact hP.bitR8 hs 4 .c 2
  | bit_4_d => exact hP.bitR8 hs 4 .d 2
  | bit_4_e => exact hP.bitR8 hs 4 .e 2
  | bit_4_h => exact hP.bitR8 hs 4 .h 2
  | bit_4_l => exact hP.bitR8 hs 4 .l 2
  | bit_4_mhl => exact hP.bitR8 hs 4 .mhl 3
  | bit_4_a => exact hP.bitR8 hs 4 .a 2
  | bit_5_b => exact hP.bitR8 hs 5 .b 2
  | bit_5_c => exact hP.bitR8 hs 5 .c 2
  | bit_5_d => exact hP.bitR8 hs 5 .d 2
  | bit_5_e => exact hP.bitR8 hs 5 .e 2
  | bit_5_h => exact hP.bitR8 hs 5 .h 2
  | bit_5_l => exact hP.bitR8 hs 5 .l 2
  | bit_5_mhl => exact hP.bitR8 hs 5 .mhl 3
  | bit_5_a => exact hP.bitR8 hs 5 .a 2
  | bit_6_b => exact hP.bitR8 hs 6 .b 2
  | bit_6_c => exact hP.bitR8 hs 6 .c 2
  | bit_6_d => exact hP.bitR8 hs 6 .d 2
  | bit_6_e => exact hP.bitR8 hs 6 .e 2
  | bit_6_h => exact hP.bitR8 hs 6 .h 2
  | bit_6_l => exact hP.bitR8 hs 6 .l 2
  | bit_6_mhl => exact hP.bitR8 hs 6 .mhl 3
  | bit_6_a => exact hP.bitR8 hs 6 .a 2
  | bit_7_b => exact hP.bitR8 hs 7 .b 2
  | bit_7_c => exact hP.bitR8 hs 7 .c 2
  | bit_7_d => exact hP.bitR8 hs 7 .d 2
  | bit_7_e => exact hP.bitR8 hs 7 .e 2
  | bit_7_h => exact hP.bitR8 hs 7 .h 2
  | bit_7_l => exact hP.bitR8 hs 7 .l 2
  | bit_7_mhl => exact hP.bitR8 hs 7 .mhl 3
  | bit_7_a => exact hP.bitR8 hs 7 .a 2
  | res_0_b => exact hP.resR8 hs 0 .b 2
  | res_0_c => exact hP.resR8 hs 0 .c 2
  | res_0_d => exact hP.resR8 hs 0 .d 2
  | res_0_e => exact hP.resR8 hs 0 .e 2
  | res_0_h => exact hP.resR8 hs 0 .h 2
  | res_0_l => exact hP.resR8 hs 0 .l 2
  | res_0_mhl => exact hP.resR8 hs 0 .mhl 4
  | res_0_a => exact hP.resR8 hs 0 .a 2
  | res_1_b => exact hP.resR8 hs 1 .b 2
  | res_1_c => exact hP.resR8 hs 1 .c 2
  | res_1_d => exact hP.resR8 hs 1 .d 2
  | res_1_e => exact hP.resR8 hs 1 .e 2
  | res_1_h => exact hP.resR8 hs 1 .h 2
  | res_1_l => exact hP.resR8 hs 1 .l 2
  | res_1_mhl => exact hP.resR8 hs 1 .mhl 4
  | res_1_a => exact hP.resR8 hs 1 .a 2
  | res_2_b => exact hP.resR8 hs 2 .b 2
  | res_2_c => exact hP.resR8 hs 2 .c 2
  | res_2_d => exact hP.resR8 hs 2 .d 2
  | res_2_e => exact hP.resR8 hs 2 .e 2
  | res_2_h => exact hP.resR8 hs 2 .h 2
  | res_2_l => exact hP.resR8 hs 2 .l 2
  | res_2_mhl => exact hP.resR8 hs 2 .mhl 4
  | res_2_a => exact hP.resR8 hs 2 .a 2
  | res_3_b => exact hP.resR8 hs 3 .b 2
  | res_3_c => exact hP.resR8 hs 3 .c 2
  | res_3_d => exact hP.resR8 hs 3 .d 2
  | res_3_e => exact hP.resR8 hs 3 .e 2
  | res_3_h => exact hP.resR8 hs 3 .h 2
  | res_3_l => exact hP.resR8 hs 3 .l 2
  | res_3_mhl => exact hP.resR8 hs 3 .mhl 4
  | res_3_a => exact hP.resR8 hs 3 .a 2
  | res_4_b => exact hP.resR8 hs 4 .b 2
  | res_4_c => exact hP.resR8 hs 4 .c 2
  | res_4_d => exact hP.resR8 hs 4 .d 2
  | res_4_e => exact hP.resR8 hs 4 .e 2
  | res_4_h => exact hP.resR8 hs 4 .h 2
  | res_4_l => exact hP.resR8 hs 4 .l 2
  | res_4_mhl => exact hP.resR8 hs 4 .mhl 4
  | res_4_a => exact hP.resR8 hs 4 .a 2
  | res_5_b => exact hP.resR8 hs 5 .b 2
  | res_5_c => exact hP.resR8 hs 5 .c 2
  | res_5_d => exact hP.resR8 hs 5 .d 2
  | res_5_e => exact hP.resR8 hs 5 .e 2
  | res_5_h => exact hP.resR8 hs 5 .h 2
  | res_5_l => exact hP.resR8 hs 5 .l 2
  | res_5_mhl => exact hP.resR8 hs 5 .mhl 4
  | res_5_a => exact hP.resR8 hs 5 .a 2
  | res_6_b => exact hP.resR8 hs 6 .b 2
  | res_6_c => exact hP.resR8 hs 6 .c 2
  | res_6_d => exact hP.resR8 hs 6 .d 2
  | res_6_e => exact hP.resR8 hs 6 .e 2
  | res_6_h => exact hP.resR8 hs 6 .h 2
  | res_6_l => exact hP.resR8 hs 6 .l 2
  | res_6_mhl => exact hP.resR8 hs 6 .mhl 4
  | res_6_a => exact hP.resR8 hs 6 .a 2
  | res_7_b => exact hP.resR8 hs 7 .b 2
  | res_7_c => exact hP.resR8 hs 7 .c 2
  | res_7_d => exact hP.resR8 hs 7 .d 2
  | res_7_e => exact hP.resR8 hs 7 .e 2
  | res_7_h => exact hP.resR8 hs 7 .h 2
  | res_7_l => exact hP.resR8 hs 7 .l 2
  | res_7_mhl => exact hP.resR8 hs 7 .mhl 4
  | res_7_a => exact hP.resR8 hs 7 .a 2
  | set_0_b => exact hP.setR8 hs 0 .b 2
  | set_0_c => exact hP.setR8 hs 0 .c 2
  | set_0_d => exact hP.setR8 hs 0 .d 2
  | set_0_e => exact hP.setR8 hs 0 .e 2
  | set_0_h => exact hP.setR8 hs 0 .h 2
  | set_0_l => exact hP.setR8 hs 0 .l 2
  | set_0_mhl => exact hP.setR8 hs 0 .mhl 4
  | set_0_a => exact hP.setR8 hs 0 .a 2
  | set_1_b => exact hP.setR8 hs 1 .b 2
  | set_1_c => exact hP.setR8 hs 1 .c 2
  | set_1_d => exact hP.setR8 hs 1 .d 2
  | set_1_e => exact hP.setR8 hs 1 .e 2
  | set_1_h => exact hP.setR8 hs 1 .h 2
  | set_1_l => exact hP.setR8 hs 1 .l 2
  | set_1_mhl => exact hP.setR8 hs 1 .mhl 4
  | set_1_a => exact hP.setR8 hs 1 .a 2
  | set_2_b => exact hP.setR8 hs 2 .b 2
  | set_2_c => exact hP.setR8 hs 2 .c 2
  | set_2_d => exact hP.setR8 hs 2 .d 2
  | set_2_e => exact hP.setR8 hs 2 .e 2
  | set_2_h => exact hP.setR8 hs 2 .h 2
  | set_2_l => exact hP.setR8 hs 2 .l 2
  | set_2_mhl => exact hP.setR8 hs 2 .mhl 4
  | set_2_a => exact hP.setR8 hs 2 .a 2
  | set_3_b => exact hP.setR8 hs 3 .b 2
  | set_3_c => exact hP.setR8 hs 3 .c 2
  | set_3_d => exact hP.setR8 hs 3 .d 2
  | set_3_e => exact hP.setR8 hs 3 .e 2
  | set_3_h => exact hP.setR8 hs 3 .h 2
  | set_3_l => exact hP.setR8 hs 3 .l 2
  | set_3_mhl => exact hP.setR8 hs 3 .mhl 4
  | set_3_a => exact hP.setR8 hs 3 .a 2
  | set_4_b => exact hP.setR8 hs 4 .b 2
  | set_4_c => exact hP.setR8 hs 4 .c 2
  | set_4_d => exact hP.setR8 hs 4 .d 2
  | set_4_e => exact hP.setR8 hs 4 .e 2
  | set_4_h => exact hP.setR8 hs 4 .h 2
  | set_4_l => exact hP.setR8 hs 4 .l 2
  | set_4_mhl => exact hP.setR8 hs 4 .mhl 4
  | set_4_a => exact hP.setR8 hs 4 .a 2
  | set_5_b => exact hP.setR8 hs 5 .b 2
  | set_5_c => exact hP.setR8 hs 5 .c 2
  | set_5_d => exact hP.setR8 hs 5 .d 2
  | set_5_e => exact hP.setR8 hs 5 .e 2
  | set_5_h => exact hP.setR8 hs 5 .h 2
  | set_5_l => exact hP.setR8 hs 5 .l 2
  | set_5_mhl => exact hP.setR8 hs 5 .mhl 4
  | set_5_a => exact hP.setR8 hs 5 .a 2
  | set_6_b => exact hP.setR8 hs 6 .b 2
  | set_6_c => exact hP.setR8 hs 6 .c 2
  | set_6_d => exact hP.setR8 hs 6 .d 2
  | set_6_e => exact hP.setR8 hs 6 .e 2
  | set_6_h => exact hP.setR8 hs 6 .h 2
  | set_6_l => exact hP.setR8 hs 6 .l 2
  | set_6_mhl => exact hP.setR8 hs 6 .mhl 4
  | set_6_a => exact hP.setR8 hs 6 .a 2
  | set_7_b => exact hP.setR8 hs 7 .b 2
  | set_7_c => exact hP.setR8 hs 7 .c 2
  | set_7_d => exact hP.setR8 hs 7 .d 2
  | set_7_e => exact hP.setR8 hs 7 .e 2
  | set_7_h => exact hP.setR8 hs 7 .h 2
  | set_7_l => exact hP.setR8 hs 7 .l 2
  | set_7_mhl => exact hP.setR8 hs 7 .mhl 4
  | set_7_a => exact hP.setR8 hs 7 .a 2

/-- A property the four control instructions' own writes keep as well. -/
structure Kept (P : State → Prop) : Prop extends KeptCore P where
  di : ∀ {s}, P s → P { s with ime := false, eiPending := false }
  ei : ∀ {s}, s.ime = false → P s → P { s with eiPending := true }
  reti : ∀ {s}, P s → P s.interruptsOn
  halt : ∀ {s}, P s → P { s with halted := true }

/-- Every instruction keeps such a property. -/
theorem exec_keeps {P : State → Prop} (hP : Kept P) (i : Instr) (s : State) (hs : P s) :
    Ensures P (exec i s) := by
  by_cases hi : isControlInstr i = false
  · exact exec_keeps_core hP.toKeptCore i s hi hs
  · have : i ∈ [Instr.di, .ei, .reti, .halt] := by
      by_contra hn
      exact hi (decide_eq_false hn)
    simp only [List.mem_cons, List.not_mem_nil, or_false] at this
    rcases this with rfl | rfl | rfl | rfl
    · exact hP.retire _ _ (hP.di hs)
    · show Ensures P (retire 1 1 (if s.ime then s else _))
      by_cases h : s.ime = true
      · rw [if_pos h]
        exact hP.retire _ _ hs
      · rw [if_neg h]
        exact hP.retire _ _ (hP.ei (by simpa using h) hs)
    · show Ensures P (pop16 s fun v t => jumpTo v 4 t.interruptsOn)
      exact hP.pop16 hs fun _ _ hu => hP.jumpTo _ _ (hP.reti hu)
    · show Ensures P (if s.ime = false ∧ s.pend ≠ 0 then _ else _)
      split
      · trivial
      · exact hP.retire _ _ (hP.halt hs)

/-- What no instruction changes: the error record, the latched opcode, the host's schedule, the ROM
image and the cartridge's parameters. -/
theorem exec_frame {i : Instr} {s t : State} (h : exec i s = .next t) :
    t.error = s.error ∧ t.ir = s.ir ∧ t.hostInput = s.hostInput ∧ t.rom = s.rom ∧
      t.romBankCount = s.romBankCount ∧ t.ramSize = s.ramSize := by
  refine ensures_iff.1 (exec_keeps (P := fun u => u.error = s.error ∧ u.ir = s.ir ∧
    u.hostInput = s.hostInput ∧ u.rom = s.rom ∧ u.romBankCount = s.romBankCount ∧
    u.ramSize = s.ramSize) ?_ i s ⟨rfl, rfl, rfl, rfl, rfl, rfl⟩) t h
  refine { set16 := fun r v h => ?_, write := fun h hw => ?_, retired := fun _ _ h => h,
           jumped := fun _ _ h => h, di := fun h => h, ei := fun _ h => h, reti := fun h => h,
           halt := fun h => h }
  · simpa using h
  · rw [busWrite_only hw]
    exact h

/-- No instruction but the four control instructions changes IME, EI_PENDING or HALTED. -/
theorem exec_control {i : Instr} {s t : State} (hi : isControlInstr i = false)
    (h : exec i s = .next t) :
    t.ime = s.ime ∧ t.eiPending = s.eiPending ∧ t.halted = s.halted := by
  refine ensures_iff.1 (exec_keeps_core (P := fun u => u.ime = s.ime ∧ u.eiPending = s.eiPending ∧
    u.halted = s.halted) ?_ i s hi ⟨rfl, rfl, rfl⟩) t h
  refine { set16 := fun r v h => ?_, write := fun h hw => ?_, retired := fun _ _ h => h,
           jumped := fun _ _ h => h }
  · simpa using h
  · rw [busWrite_only hw]
    exact h

end Sys2Proof.Machine
end

