-- ==== Sys2Proof/Laws/Run.lean ====
section
/-! SUPPORT. What construction answers, and what a run is: how each way of ending looks, that the
ending is the first to come, that a longer bound changes nothing once a run has ended, and what a
property kept by every step says of a run. -/

namespace Sys2Proof.Machine

/-- Construction answers a core only where the checks pass, and which core that is (R501). -/
theorem construct_ok {p : Launch} {c : State} (h : State.construct p = .ok c) :
    p.check = none ∧ c = { p.unlatched with ir := c.ir } := by
  unfold State.construct at h
  split at h
  · cases h
  · rename_i hc
    cases h
    exact ⟨hc, rfl⟩

/-- A constructed core's free input is the one the launch gives (R8, R505). -/
theorem construct_hostInput {p : Launch} {c : State} (h : State.construct p = .ok c) :
    c.hostInput = p.hostInput := by
  rw [(construct_ok h).2]
  rfl

/-! ## One step of a run -/

theorem run_zero (s : State) :
    s.run 0 = s.endsAs (if s.endMarker then .marker else .stopped) := rfl

/-- Clause (b) at the boundary the run starts from. -/
theorem run_of_endMarker {s : State} (h : s.endMarker = true) (n : Nat) :
    s.run n = s.endsAs .marker := by
  cases n <;> simp [State.run, h]

theorem run_of_next {s t : State} (h : s.endMarker = false) (hs : step s = .next t) (n : Nat) :
    s.run (n + 1) = (t.run n).afterStep t.cycles := by
  simp [State.run, h, hs]

/-- Clause (a) at the first step. -/
theorem run_of_fault {s : State} {r : Fault} (h : s.endMarker = false) (hs : step s = .fault r)
    (n : Nat) : s.run (n + 1) = s.endsAs (.fault r) := by
  simp [State.run, h, hs]

theorem run_of_refused {s : State} {r : Refusal} (h : s.endMarker = false)
    (hs : step s = .refused r) (n : Nat) : s.run (n + 1) = s.endsAs (.refused r) := by
  simp [State.run, h, hs]

/-- What a run of a positive bound is: it ends at once, or it is one step and the run after it. -/
theorem run_cases (s : State) (n : Nat) :
    (s.endMarker = true ∧ s.run (n + 1) = s.endsAs .marker) ∨
    (s.endMarker = false ∧
      ((∃ t, step s = .next t ∧ s.run (n + 1) = (t.run n).afterStep t.cycles) ∨
        (∃ r, step s = .fault r ∧ s.run (n + 1) = s.endsAs (.fault r)) ∨
        ∃ r, step s = .refused r ∧ s.run (n + 1) = s.endsAs (.refused r))) := by
  cases hm : s.endMarker with
  | true => exact .inl ⟨rfl, run_of_endMarker hm _⟩
  | false =>
    refine .inr ⟨rfl, ?_⟩
    cases hs : step s with
    | next t => exact .inl ⟨t, rfl, run_of_next hm hs n⟩
    | fault r => exact .inr (.inl ⟨r, rfl, run_of_fault hm hs n⟩)
    | refused r => exact .inr (.inr ⟨r, rfl, run_of_refused hm hs n⟩)

/-! ## The three ways a run ends (R506) -/

/-- What the ending says of the state at the last boundary. -/
def RunEnd.Holds (e : RunEnd) (s : State) : Prop :=
  match e with
  | .fault r => s.endMarker = false ∧ step s = .fault r
  | .marker => s.endMarker = true
  | .stopped => s.endMarker = false
  | .refused r => s.endMarker = false ∧ step s = .refused r

/-- A run takes at most the steps its Driver calls, all of them where it is stopped, and its ending
holds of the state at the last boundary. -/
theorem run_ending (n : Nat) (s : State) :
    (s.run n).ending.Holds (s.run n).state ∧ (s.run n).steps ≤ n ∧
      ((s.run n).ending = .stopped → (s.run n).steps = n) := by
  induction n generalizing s with
  | zero =>
    rw [run_zero]
    cases h : s.endMarker <;> exact ⟨h, Nat.le_refl 0, fun _ => rfl⟩
  | succ n ih =>
    rcases run_cases s n with ⟨hm, h⟩ | ⟨hm, ⟨t, -, h⟩ | ⟨r, hs, h⟩ | ⟨r, hs, h⟩⟩ <;> rw [h]
    · exact ⟨hm, Nat.zero_le _, fun h => by cases h⟩
    · obtain ⟨h1, h2, h3⟩ := ih t
      exact ⟨h1, Nat.succ_le_succ h2, fun h => congrArg (· + 1) (h3 h)⟩
    · exact ⟨⟨hm, hs⟩, Nat.zero_le _, fun h => by cases h⟩
    · exact ⟨⟨hm, hs⟩, Nat.zero_le _, fun h => by cases h⟩

/-- A run ends in the first of the ways: at every earlier bound it was only stopped by its Driver. -/
theorem run_before_end {n k : Nat} {s : State} (h : k < (s.run n).steps) :
    (s.run k).ending = .stopped := by
  induction n generalizing s k with
  | zero => exact absurd h (Nat.not_lt_zero _)
  | succ n ih =>
    rcases run_cases s n with ⟨-, e⟩ | ⟨hm, ⟨t, hs, e⟩ | ⟨r, -, e⟩ | ⟨r, -, e⟩⟩ <;> rw [e] at h
    · exact absurd h (Nat.not_lt_zero _)
    · cases k with
      | zero => rw [run_zero, hm]; rfl
      | succ k =>
        rw [run_of_next hm hs]
        exact ih (Nat.lt_of_succ_lt_succ h)
    · exact absurd h (Nat.not_lt_zero _)
    · exact absurd h (Nat.not_lt_zero _)

/-- Once a run has ended, a Driver that would call further changes nothing. -/
theorem run_ended {n : Nat} {s : State} (h : (s.run n).ending ≠ .stopped) (m : Nat) :
    s.run (n + m) = s.run n := by
  induction n generalizing s with
  | zero =>
    cases hm : s.endMarker with
    | true => rw [run_of_endMarker hm, run_of_endMarker hm]
    | false => rw [run_zero, hm] at h; exact absurd rfl h
  | succ n ih =>
    rw [Nat.succ_add]
    rcases run_cases s n with ⟨hm, e⟩ | ⟨hm, ⟨t, hs, e⟩ | ⟨r, hs, e⟩ | ⟨r, hs, e⟩⟩
    · rw [run_of_endMarker hm, run_of_endMarker hm]
    · rw [e] at h
      rw [e, run_of_next hm hs, ih h]
    · rw [e, run_of_fault hm hs]
    · rw [e, run_of_refused hm hs]

/-- Under any host a run hangs, or some number of steps brings it to an end marker, a fault or a
refusal. -/
theorem hangsUnder_or_ends (s : State) (host : Nat → List HostWrite) :
    s.HangsUnder host ∨ ∃ n, ((s.scheduled host n).run n).ending ≠ .stopped := by
  by_cases h : s.HangsUnder host
  · exact .inl h
  · exact .inr (not_forall.1 h)

@[simp] theorem scheduled_hostInput (s : State) (host : Nat → List HostWrite) (n : Nat) :
    (s.scheduled host n).hostInput = (List.range n).map host := rfl

@[simp] theorem scheduled_endMarker (s : State) (host : Nat → List HostWrite) (n : Nat) :
    (s.scheduled host n).endMarker = s.endMarker := rfl

/-- A run over the writes of an endless host hangs where, whatever of its schedule is still to come,
each step takes the boundary's writes and leads from one state of a sequence of sets without an end
marker into the next. -/
theorem hangsUnder_of_invariant {P : Nat → State → Prop} {host : Nat → List HostWrite} {s : State}
    (hs : ∀ n, P 0 (s.scheduled host n)) (hm : ∀ k u, P k u → u.endMarker = false)
    (h : ∀ k u rest, P k u → u.hostInput = host k :: rest →
      ∃ t, step u = .next t ∧ t.hostInput = rest ∧ P (k + 1) t) : s.HangsUnder host := by
  have key : ∀ n k u, P k u → u.hostInput = (List.range n).map (fun j => host (k + j)) →
      (u.run n).ending = .stopped := by
    intro n
    induction n with
    | zero =>
      intro k u hu _
      rw [run_zero, hm k u hu]
      rfl
    | succ n ih =>
      intro k u hu hi
      rw [List.range_succ_eq_map, List.map_cons, List.map_map] at hi
      obtain ⟨t, ht, htl, hP⟩ := h k u _ hu hi
      rw [run_of_next (hm k u hu) ht]
      refine ih (k + 1) t hP (htl.trans (List.map_congr_left fun j _ => ?_))
      show host (k + (j + 1)) = host (k + 1 + j)
      rw [Nat.add_assoc, Nat.add_comm 1 j]
  intro n
  exact key n 0 _ (hs n) (by simp)

/-- What every step keeps holds at every boundary of a run. -/
theorem run_keeps {P : State → Prop} (h : ∀ s t, P s → step s = .next t → P t) (n : Nat)
    {s : State} (hs : P s) : P (s.run n).state := by
  induction n generalizing s with
  | zero => exact hs
  | succ n ih =>
    rcases run_cases s n with ⟨-, e⟩ | ⟨-, ⟨t, ht, e⟩ | ⟨r, -, e⟩ | ⟨r, -, e⟩⟩ <;> rw [e]
    · exact hs
    · exact ih (h s t hs ht)
    · exact hs
    · exact hs

/-! ## The final state and the M-cycles (R522) -/

theorem final_eq_some {r : RunResult} {s : State} :
    r.final = some s ↔ (r.ending = .marker ∨ r.ending = .stopped) ∧ r.state = s := by
  obtain ⟨e, t, k, c⟩ := r
  cases e <;> simp [RunResult.final]

@[simp] theorem totalCycles_zero (s : State) : totalCycles 0 s = some 0 := by
  unfold totalCycles
  rw [run_zero]
  cases s.endMarker <;> rfl

theorem totalCycles_of_next {s t : State} (h : s.endMarker = false) (hs : step s = .next t)
    (n : Nat) : totalCycles (n + 1) s = (totalCycles n t).map (t.cycles + ·) := by
  unfold totalCycles
  rw [run_of_next h hs]
  generalize t.run n = r
  obtain ⟨e, u, k, c⟩ := r
  cases e <;> rfl

end Sys2Proof.Machine
end

