-- ==== Sys2Proof/Tests/Slice0.lean ====
section
/-! SUPPORT. Tests: the well-formedness check, words written out from the encoding tables, one-step
vectors of 95_test_vectors, the bank table of its W3, and for every obligation with hypotheses a
state and operands that meet them. Every expected value is the spec's. -/

namespace Sys2Proof.Tests

open Sys2Proof.Machine

/-! ## Small states -/

/-- The RomOnly cartridge of 95_test_vectors section 1, its image and memory all zero. -/
def romOnlyCore : State := { State.reset with bank := .romOnly, romBankCount := 2, ramSize := 0 }

/-- Code at an address, PC there and its first byte latched. -/
def holding (a : Word) (code : List Byte) (s : State) : State :=
  { s.placeBytes a code with pc := a, ir := code.headD 0 }

/-- Code at 0xC100 in work RAM of a RomOnly core. -/
def ram (code : List Byte) : State := holding 0xC100 code romOnlyCore

/-- Code at 0xC100 of an MBC1 core whose banks 1 to 3 begin with their number. -/
def mbc1Ram (code : List Byte) : State :=
  holding 0xC100 code { State.reset with rom := [(0x4000, 1), (0x8000, 2), (0xC000, 3)] }

/-- One step answers a next state with these M-cycles and the byte at PC latched, and `p`. -/
def ends (s : State) (cyc : Nat) (p : State → Bool) : Bool :=
  match step s with
  | .next t => t.cycles == cyc && t.busRead t.pc == some t.ir && p t
  | .fault _ => false
  | .refused _ => false

/-- The fatal error one step fails with. -/
def fails (s : State) : Option FatalError :=
  match step s with
  | .fault (.fatal e) => some e
  | .fault (.terminal _) => none
  | .next _ => none
  | .refused _ => none

/-! ## Well-formedness -/

/-- The prefix byte alone is no instruction (R426), and the check refuses it. -/
theorem test_prefix_alone_is_ill_formed : Instr.prefix_cb.wellFormed = false := by decide

/-- With its second byte it is (R162). -/
theorem test_prefixed_instruction_is_well_formed : Instr.set_3_mhl.wellFormed = true := by decide

/-- An illegal byte is a complete row of the table (R160). -/
theorem test_illegal_row_is_well_formed : Instr.illegal_d3.wellFormed = true := by decide

/-! ## Words from the encoding tables (R151, R152, R157, R158) -/

/-- x = 1: LD r,r' is 01 yyy zzz, with y = 2 (D) and z = 5 (L). -/
theorem test_decode_ld_d_l : decode [0b01010101] = .ok (.ld_d_l, []) := by decide

/-- LD r,(HL) is 01 yyy 110, with y = 3 (E). -/
theorem test_decode_ld_e_mhl : decode [0b01011110] = .ok (.ld_e_mhl, []) := by decide

/-- LD r,d8 is 00 yyy 110 nnnnnnnn, with y = 7 (A). -/
theorem test_decode_ld_a_d8 :
    decode [0b00111110, 0b10100101] = .ok (.ld_a_d8 0xA5, []) := by decide

/-- LD rr,d16 is 00 pp0 001, the low byte of the word first, with p = 2 (HL). -/
theorem test_decode_ld_hl_d16 :
    decode [0b00100001, 0b00110100, 0b00010010] = .ok (.ld_hl_d16 0x1234, []) := by decide

/-- PUSH rp2 is 11 pp0 101, with p = 3 (AF). -/
theorem test_decode_push_af : decode [0b11110101] = .ok (.push_af, []) := by decide

/-- POP rp2 is 11 pp0 001, with p = 1 (DE). -/
theorem test_decode_pop_de : decode [0b11010001] = .ok (.pop_de, []) := by decide

/-- The ALU rows are 10 yyy zzz, with y = 3 (SBC) and z = 4 (H). -/
theorem test_decode_sbc_a_h : decode [0b10011100] = .ok (.sbc_a_h, []) := by decide

/-- The ALU immediates are 11 yyy 110, with y = 7 (CP). -/
theorem test_decode_cp_d8 : decode [0b11111110, 0x3C] = .ok (.cp_d8 0x3C, []) := by decide

/-- ADD HL,rr is 00 pp1 001, with p = 3 (SP). -/
theorem test_decode_add_hl_sp : decode [0b00111001] = .ok (.add_hl_sp, []) := by decide

/-- Rotates are 11001011 00 yyy zzz, with y = 6 (SWAP) and z = 7 (A). -/
theorem test_decode_swap_a : decode [0b11001011, 0b00110111] = .ok (.swap_a, []) := by decide

/-- BIT is 11001011 01 yyy zzz, with y = 7 and z = 4 (H). -/
theorem test_decode_bit_7_h : decode [0b11001011, 0b01111100] = .ok (.bit_7_h, []) := by decide

/-- RES is 11001011 10 yyy zzz, with y = 5 and z = 6, the byte at HL. -/
theorem test_decode_res_5_mhl :
    decode [0b11001011, 0b10101110] = .ok (.res_5_mhl, []) := by decide

/-- SET is 11001011 11 yyy zzz, with y = 1 and z = 3 (E): the second byte is 0xCB too. -/
theorem test_decode_set_1_e : decode [0b11001011, 0b11001011] = .ok (.set_1_e, []) := by decide

/-- JR cc is 00 1cc 000, with cc = 3 (C). -/
theorem test_decode_jr_c_e8 : decode [0b00111000, 0x10] = .ok (.jr_c_e8 0x10, []) := by decide

/-- CALL cc is 11 0cc 100, with cc = 2 (NC), the low byte of the address first. -/
theorem test_decode_call_nc_a16 :
    decode [0b11010100, 0x00, 0x03] = .ok (.call_nc_a16 0x0300, []) := by decide

/-- RST is 11 yyy 111, with y = 5: the target is 0x28. -/
theorem test_decode_rst_28 : decode [0b11101111] = .ok (.rst_28, []) := by decide

/-- 01 110 110 is HALT, not LD (HL),(HL) (R157). -/
theorem test_decode_halt : decode [0b01110110] = .ok (.halt, []) := by decide

/-- STOP has a second byte, which is not checked (R164). -/
theorem test_decode_stop : decode [0x10, 0xFF] = .ok (.stop, []) := by decide

/-- 0xED is one of the eleven illegal bytes (R160). -/
theorem test_decode_illegal_ed : decode [0xED] = .ok (.illegal_ed, []) := by decide

/-- No byte, or too few, is no instruction (R162). -/
theorem test_decode_short :
    decode [] = .error .noBytes ∧ decode [0xC3, 0x50] = .error (.missingOperand 0xC3) := by decide

/-- A secondary row's table word has the prefix in bits 15 to 8 and the secondary opcode in bits 7
to 0 (R163), and every other row its first byte in bits 7 to 0 (log 8). -/
theorem test_table_word_of_a_secondary_row :
    decodeTableWord 16 0xCBDE = some .set_3_mhl ∧ decodeTableWord 8 0xCB = some .prefix_cb := by
  decide

/-- An operand row's word may stop at the opcode: its operand bytes are then zero. -/
theorem test_table_word_without_operands :
    decodeTableWord 8 0xC3 = some (.jp_a16 0x0000) := by decide

/-- The placed word is what the step after reset runs: LD B,d8 with 0x7F. -/
theorem test_placed_word_runs :
    ends (State.reset.withFetchWord 16 0x7F06) 2
      (fun t => t.get8 .b == 0x7F && t.pc == 0x0102) = true := by decide

/-! ## One-step vectors of 95_test_vectors -/

/-- V1 (R250): LD C,B. -/
theorem test_v1_ld_c_b :
    ends ((ram [0x48]).set8 .b 0x12 |>.set8 .c 0x00) 1
      (fun t => t.get8 .c == 0x12 && t.get16 .bc == 0x1212 && t.pc == 0xC101) = true := by decide

/-- V2 (R250): LD B,B (same register). -/
theorem test_v2_ld_b_b_same_register :
    ends ((ram [0x40]).set8 .b 0x77) 1
      (fun t => t.get8 .b == 0x77 && t.pc == 0xC101) = true := by decide

/-- V3 (R251): LD A,(HL). -/
theorem test_v3_ld_a_hl :
    ends ((ram [0x7E]).set16 .hl 0xC000 |>.placeByte 0xC000 0x5A) 2
      (fun t => t.get8 .a == 0x5A && t.pc == 0xC101) = true := by decide

/-- V4 (R252): LD (HL),H stores the high byte of the address. -/
theorem test_v4_ld_hl_h_stores_the_high_byte_of_the_address :
    ends ((ram [0x74]).set16 .hl 0xC010) 2
      (fun t => t.busRead 0xC010 == some 0xC0 && t.pc == 0xC101) = true := by decide

/-- V5 (R253): LD A,d8. -/
theorem test_v5_ld_a_d8 :
    ends (ram [0x3E, 0x05]) 2
      (fun t => t.get8 .a == 0x05 && t.pc == 0xC102) = true := by decide

/-- V6 (R254): LD (HL),d8. -/
theorem test_v6_ld_hl_d8 :
    ends ((ram [0x36, 0x7F]).set16 .hl 0xC000) 3
      (fun t => t.busRead 0xC000 == some 0x7F && t.pc == 0xC102) = true := by decide

/-- V7 (R255): LD A,(BC). -/
theorem test_v7_ld_a_bc :
    ends ((ram [0x0A]).set16 .bc 0xC200 |>.placeByte 0xC200 0x01) 2
      (fun t => t.get8 .a == 0x01 && t.pc == 0xC101) = true := by decide

/-- V8 (R258): LD (DE),A. -/
theorem test_v8_ld_de_a :
    ends ((ram [0x12]).set16 .de 0xD000 |>.set8 .a 0x99) 2
      (fun t => t.busRead 0xD000 == some 0x99 && t.pc == 0xC101) = true := by decide

/-- V9 (R259): LD (HL+),A at HL = 0xFFFF writes IE and wraps HL. -/
theorem test_v9_ld_mhli_a_at_hl_0xffff_writes_ie_and_wraps_hl :
    ends ((ram [0x22]).set16 .hl 0xFFFF |>.set8 .a 0x1F) 2
      (fun t => t.get16 .hl == 0x0000 && t.busRead 0xFFFF == some 0x1F && t.pc == 0xC101) = true
        := by decide

/-- V10 (R260): LD (HL-),A at HL = 0x0000 on RomOnly faults, HL unchanged. -/
theorem test_v10_ld_mhld_a_at_hl_0x0000_on_romonly_faults_hl_unchanged :
    fails ((ram [0x32]).set16 .hl 0x0000 |>.set8 .a 0x10) =
      some (.unmappedAddressError 0x00 .write) := by decide

/-- V11 (R262): LD A,(HL-) at HL = 0x0000 reads ROM and wraps HL. -/
theorem test_v11_ld_a_mhld_at_hl_0x0000_reads_rom_and_wraps_hl :
    ends ((ram [0x3A]).set16 .hl 0x0000 |>.placeByte 0x0000 0xAB) 2
      (fun t => t.get8 .a == 0xAB && t.get16 .hl == 0xFFFF && t.pc == 0xC101) = true := by decide

/-- V12 (R264): LD A,(0xE000) (echo) faults. -/
theorem test_v12_ld_a_0xe000_echo_faults :
    fails ((ram [0xFA, 0x00, 0xE0]).set8 .a 0x33) =
      some (.unmappedAddressError 0xE000 .read) := by decide

/-- V13 (R265): LDH (0xFF),A writes IE. -/
theorem test_v13_ldh_0xff_a_writes_ie :
    ends ((ram [0xE0, 0xFF]).set8 .a 0x04) 3
      (fun t => t.busRead 0xFFFF == some 0x04 && t.pc == 0xC102) = true := by decide

/-- V14 (R266): LDH A,(0x80). -/
theorem test_v14_ldh_a_0x80 :
    ends ((ram [0xF0, 0x80]).placeByte 0xFF80 0x11) 3
      (fun t => t.get8 .a == 0x11 && t.pc == 0xC102) = true := by decide

/-- V15 (R268): LD A,(C) with C = 0x0F reads IF. -/
theorem test_v15_ld_a_c_with_c_0x0f_reads_if :
    ends ((ram [0xF2]).set8 .c 0x0F |>.placeByte 0xFF0F 0xE1) 2
      (fun t => t.get8 .a == 0xE1 && t.pc == 0xC101) = true := by decide

/-- V16 (R280): LD BC,0x120F (low byte first). -/
theorem test_v16_ld_bc_0x120f_low_byte_first :
    ends (ram [0x01, 0x0F, 0x12]) 3
      (fun t => t.get16 .bc == 0x120F && t.pc == 0xC103) = true := by decide

/-- V17 (R281): LD (0xC100),SP. -/
theorem test_v17_ld_0xc100_sp :
    ends ((holding 0xC200 [0x08, 0x00, 0xC1] romOnlyCore).set16 .sp 0xFFF8) 5
      (fun t => t.busRead 0xC100 == some 0xF8 && t.busRead 0xC101 == some 0xFF && t.pc == 0xC203)
        = true := by decide

/-- V18 (R281): LD (0xFFFF),SP on RomOnly: second byte faults, IE unchanged. -/
theorem test_v18_ld_0xffff_sp_on_romonly_second_byte_faults_ie_unchanged :
    fails ((ram [0x08, 0xFF, 0xFF]).set16 .sp 0x1234 |>.placeByte 0xFFFF 0x00) =
      some (.unmappedAddressError 0x00 .write) := by decide

/-- V19 (R282): LD SP,HL. -/
theorem test_v19_ld_sp_hl :
    ends ((ram [0xF9]).set16 .hl 0xDFF0) 2
      (fun t => t.get16 .sp == 0xDFF0 && t.pc == 0xC101) = true := by decide

/-- V20 (R283): PUSH BC. -/
theorem test_v20_push_bc :
    ends ((ram [0xC5]).set16 .sp 0xCFFE |>.set16 .bc 0x12FF) 4
      (fun t => t.get16 .sp == 0xCFFC && t.busRead 0xCFFC == some 0xFF && t.busRead 0xCFFD ==
        some 0x12 && t.pc == 0xC101) = true := by decide

/-- V21 (R283): PUSH at SP = 0xE002 faults at 0xE001, SP unchanged. -/
theorem test_v21_push_at_sp_0xe002_faults_at_0xe001_sp_unchanged :
    fails ((ram [0xC5]).set16 .sp 0xE002) =
      some (.unmappedAddressError 0xE001 .write) := by decide

/-- V22 (R284): POP DE. -/
theorem test_v22_pop_de :
    ends ((ram [0xD1]).set16 .sp 0xCFFC |>.placeByte 0xCFFC 0x34 |>.placeByte 0xCFFD 0x12) 3
      (fun t => t.get16 .de == 0x1234 && t.get16 .sp == 0xCFFE && t.pc == 0xC101) = true := by
        decide

/-- V23 (R285): POP AF discards the low nibble. -/
theorem test_v23_pop_af_discards_the_low_nibble :
    ends ((ram [0xF1]).set16 .sp 0xCFFC |>.placeByte 0xCFFC 0xFF |>.placeByte 0xCFFD 0x12) 3
      (fun t => t.get8 .a == 0x12 && t.get8 .f == 0xF0 && t.get16 .sp == 0xCFFE && t.pc ==
        0xC101) = true := by decide

/-- V24 (R284): POP HL at SP = 0xFFFF reads IE then ROM 0x0000. -/
theorem test_v24_pop_hl_at_sp_0xffff_reads_ie_then_rom_0x0000 :
    ends ((ram [0xE1]).set16 .sp 0xFFFF |>.placeByte 0xFFFF 0x04 |>.placeByte 0x0000 0x31) 3
      (fun t => t.get16 .hl == 0x3104 && t.get16 .sp == 0x0001 && t.pc == 0xC101) = true := by
        decide

/-- V25 (R300): ADD A,B to zero with H and C. -/
theorem test_v25_add_a_b_to_zero_with_h_and_c :
    ends ((ram [0x80]).set8 .a 0x3A |>.set8 .b 0xC6) 1
      (fun t => t.get8 .a == 0x00 && t.get8 .f == 0xB0 && t.pc == 0xC101) = true := by decide

/-- V26 (R300): ADD A,A with 0x80. -/
theorem test_v26_add_a_a_with_0x80 :
    ends ((ram [0x87]).set8 .a 0x80 |>.set8 .f 0x00) 1
      (fun t => t.get8 .a == 0x00 && t.get8 .f == 0x90 && t.pc == 0xC101) = true := by decide

/-- V27 (R301): ADC A,d8 0xFF + 0x00 + carry. -/
theorem test_v27_adc_a_d8_0xff_plus_0x00_plus_carry :
    ends ((ram [0xCE, 0x00]).set8 .a 0xFF |>.set8 .f 0x10) 2
      (fun t => t.get8 .a == 0x00 && t.get8 .f == 0xB0 && t.pc == 0xC102) = true := by decide

/-- V28 (R302): SUB A,A. -/
theorem test_v28_sub_a_a :
    ends ((ram [0x97]).set8 .a 0x42) 1
      (fun t => t.get8 .a == 0x00 && t.get8 .f == 0xC0 && t.pc == 0xC101) = true := by decide

/-- V29 (R302): SUB 0x01 from 0x00. -/
theorem test_v29_sub_0x01_from_0x00 :
    ends ((ram [0xD6, 0x01]).set8 .a 0x00 |>.set8 .f 0x00) 2
      (fun t => t.get8 .a == 0xFF && t.get8 .f == 0x70 && t.pc == 0xC102) = true := by decide

/-- V30 (R303): SBC A,A with carry. -/
theorem test_v30_sbc_a_a_with_carry :
    ends ((ram [0x9F]).set8 .a 0x42 |>.set8 .f 0x10) 1
      (fun t => t.get8 .a == 0xFF && t.get8 .f == 0x70 && t.pc == 0xC101) = true := by decide

/-- V31 (R303): SBC A,H. -/
theorem test_v31_sbc_a_h :
    ends ((ram [0x9C]).set8 .a 0x3B |>.set8 .h 0x2A |>.set8 .f 0x10) 1
      (fun t => t.get8 .a == 0x10 && t.get8 .f == 0x40 && t.pc == 0xC101) = true := by decide

/-- V32 (R304): AND L. -/
theorem test_v32_and_l :
    ends ((ram [0xA5]).set8 .a 0x5A |>.set8 .l 0x3F) 1
      (fun t => t.get8 .a == 0x1A && t.get8 .f == 0x20 && t.pc == 0xC101) = true := by decide

/-- V33 (R304): AND 0x00 gives zero. -/
theorem test_v33_and_0x00_gives_zero :
    ends ((ram [0xE6, 0x00]).set8 .a 0xFF |>.set8 .f 0x10) 2
      (fun t => t.get8 .a == 0x00 && t.get8 .f == 0xA0 && t.pc == 0xC102) = true := by decide

/-- V34 (R305): XOR A clears A. -/
theorem test_v34_xor_a_clears_a :
    ends ((ram [0xAF]).set8 .a 0x5C |>.set8 .f 0x70) 1
      (fun t => t.get8 .a == 0x00 && t.get8 .f == 0x80 && t.pc == 0xC101) = true := by decide

/-- V35 (R306): OR (HL). -/
theorem test_v35_or_hl :
    ends ((ram [0xB6]).set8 .a 0x0F |>.set16 .hl 0xC000 |>.placeByte 0xC000 0xF0) 2
      (fun t => t.get8 .a == 0xFF && t.get8 .f == 0x00 && t.pc == 0xC101) = true := by decide

/-- V36 (R307): CP equal operands. -/
theorem test_v36_cp_equal_operands :
    ends ((ram [0xFE, 0x3C]).set8 .a 0x3C) 2
      (fun t => t.get8 .a == 0x3C && t.get8 .f == 0xC0 && t.pc == 0xC102) = true := by decide

/-- V37 (R307): CP B with borrow from bit 4 only. -/
theorem test_v37_cp_b_with_borrow_from_bit_4_only :
    ends ((ram [0xB8]).set8 .a 0x3C |>.set8 .b 0x2F) 1
      (fun t => t.get8 .a == 0x3C && t.get8 .f == 0x60 && t.pc == 0xC101) = true := by decide

/-- V38 (R307): CP d8 greater operand. -/
theorem test_v38_cp_d8_greater_operand :
    ends ((ram [0xFE, 0x40]).set8 .a 0x3C) 2
      (fun t => t.get8 .a == 0x3C && t.get8 .f == 0x50 && t.pc == 0xC102) = true := by decide

/-- V39 (R308): INC A from 0xFF keeps C. -/
theorem test_v39_inc_a_from_0xff_keeps_c :
    ends ((ram [0x3C]).set8 .a 0xFF |>.set8 .f 0x10) 1
      (fun t => t.get8 .a == 0x00 && t.get8 .f == 0xB0 && t.pc == 0xC101) = true := by decide

/-- V40 (R308): INC B from 0x0F, C clear. -/
theorem test_v40_inc_b_from_0x0f_c_clear :
    ends ((ram [0x04]).set8 .b 0x0F |>.set8 .f 0x00) 1
      (fun t => t.get8 .b == 0x10 && t.get8 .f == 0x20 && t.pc == 0xC101) = true := by decide

/-- V41 (R309): INC (HL). -/
theorem test_v41_inc_hl :
    ends ((ram [0x34]).set16 .hl 0xC000 |>.set8 .f 0x00 |>.placeByte 0xC000 0x50) 3
      (fun t => t.get8 .f == 0x00 && t.busRead 0xC000 == some 0x51 && t.pc == 0xC101) = true :=
        by decide

/-- V42 (R310): DEC B to zero. -/
theorem test_v42_dec_b_to_zero :
    ends ((ram [0x05]).set8 .b 0x01 |>.set8 .f 0x00) 1
      (fun t => t.get8 .b == 0x00 && t.get8 .f == 0xC0 && t.pc == 0xC101) = true := by decide

/-- V43 (R310): DEC C from 0x10 borrows from bit 4. -/
theorem test_v43_dec_c_from_0x10_borrows_from_bit_4 :
    ends ((ram [0x0D]).set8 .c 0x10 |>.set8 .f 0x10) 1
      (fun t => t.get8 .c == 0x0F && t.get8 .f == 0x70 && t.pc == 0xC101) = true := by decide

/-- V44 (R311): DEC (HL) from 0x00 keeps C. -/
theorem test_v44_dec_hl_from_0x00_keeps_c :
    ends ((ram [0x35]).set16 .hl 0xC000 |>.set8 .f 0x10 |>.placeByte 0xC000 0x00) 3
      (fun t => t.get8 .f == 0x70 && t.busRead 0xC000 == some 0xFF && t.pc == 0xC101) = true :=
        by decide

/-- V46 (R312): DAA on 0x9A after add. -/
theorem test_v46_daa_on_0x9a_after_add :
    ends ((ram [0x27]).set8 .a 0x9A |>.set8 .f 0x00) 1
      (fun t => t.get8 .a == 0x00 && t.get8 .f == 0x90 && t.pc == 0xC101) = true := by decide

/-- V48 (R313): CPL. -/
theorem test_v48_cpl :
    ends ((ram [0x2F]).set8 .a 0x35 |>.set8 .f 0x00) 1
      (fun t => t.get8 .a == 0xCA && t.get8 .f == 0x60 && t.pc == 0xC101) = true := by decide

/-- V49 (R314): SCF. -/
theorem test_v49_scf :
    ends ((ram [0x37]).set8 .f 0xE0) 1
      (fun t => t.get8 .f == 0x90 && t.pc == 0xC101) = true := by decide

/-- V50 (R315): CCF. -/
theorem test_v50_ccf :
    ends ((ram [0x3F]).set8 .f 0xB0) 1
      (fun t => t.get8 .f == 0x80 && t.pc == 0xC101) = true := by decide

/-- V51 (R340): ADD HL,BC keeps Z. -/
theorem test_v51_add_hl_bc_keeps_z :
    ends ((ram [0x09]).set16 .hl 0x8A23 |>.set16 .bc 0x0605 |>.set8 .f 0x80) 2
      (fun t => t.get16 .hl == 0x9028 && t.get8 .f == 0xA0 && t.pc == 0xC101) = true := by decide

/-- V52 (R340): ADD HL,HL. -/
theorem test_v52_add_hl_hl :
    ends ((ram [0x29]).set16 .hl 0x8A23 |>.set8 .f 0x00) 2
      (fun t => t.get16 .hl == 0x1446 && t.get8 .f == 0x30 && t.pc == 0xC101) = true := by decide

/-- V53 (R340): ADD HL,SP wraps to zero, Z unchanged. -/
theorem test_v53_add_hl_sp_wraps_to_zero_z_unchanged :
    ends ((ram [0x39]).set16 .hl 0xFFFF |>.set16 .sp 0x0001 |>.set8 .f 0x00) 2
      (fun t => t.get16 .hl == 0x0000 && t.get8 .f == 0x30 && t.pc == 0xC101) = true := by decide

/-- V54 (R341): INC SP wraps. -/
theorem test_v54_inc_sp_wraps :
    ends ((ram [0x33]).set16 .sp 0xFFFF |>.set8 .f 0x00) 2
      (fun t => t.get16 .sp == 0x0000 && t.get8 .f == 0x00 && t.pc == 0xC101) = true := by decide

/-- V55 (R342): DEC BC wraps, no flags. -/
theorem test_v55_dec_bc_wraps_no_flags :
    ends ((ram [0x0B]).set16 .bc 0x0000 |>.set8 .f 0x00) 2
      (fun t => t.get16 .bc == 0xFFFF && t.get8 .f == 0x00 && t.pc == 0xC101) = true := by decide

/-- V56 (R343): ADD SP,2. -/
theorem test_v56_add_sp_2 :
    ends ((ram [0xE8, 0x02]).set16 .sp 0xFFF8 |>.set8 .f 0xF0) 4
      (fun t => t.get16 .sp == 0xFFFA && t.get8 .f == 0x00 && t.pc == 0xC102) = true := by decide

/-- V57 (R343): ADD SP,-1 sets H and C from the low byte. -/
theorem test_v57_add_sp_minus_1_sets_h_and_c_from_the_low_byte :
    ends ((ram [0xE8, 0xFF]).set16 .sp 0x000F |>.set8 .f 0x00) 4
      (fun t => t.get16 .sp == 0x000E && t.get8 .f == 0x30 && t.pc == 0xC102) = true := by decide

/-- V58 (R344): LD HL,SP+2. -/
theorem test_v58_ld_hl_sp_plus_2 :
    ends ((ram [0xF8, 0x02]).set16 .sp 0xFFF8) 3
      (fun t => t.get16 .hl == 0xFFFA && t.get16 .sp == 0xFFF8 && t.get8 .f == 0x00 && t.pc ==
        0xC102) = true := by decide

/-- V59 (R360): RLCA. -/
theorem test_v59_rlca :
    ends ((ram [0x07]).set8 .a 0x85 |>.set8 .f 0x00) 1
      (fun t => t.get8 .a == 0x0B && t.get8 .f == 0x10 && t.pc == 0xC101) = true := by decide

/-- V60 (R360): RLCA of zero leaves Z = 0. -/
theorem test_v60_rlca_of_zero_leaves_z_0 :
    ends ((ram [0x07]).set8 .a 0x00 |>.set8 .f 0x80) 1
      (fun t => t.get8 .a == 0x00 && t.get8 .f == 0x00 && t.pc == 0xC101) = true := by decide

/-- V61 (R361): RRCA. -/
theorem test_v61_rrca :
    ends ((ram [0x0F]).set8 .a 0x3B |>.set8 .f 0x00) 1
      (fun t => t.get8 .a == 0x9D && t.get8 .f == 0x10 && t.pc == 0xC101) = true := by decide

/-- V62 (R362): RLA. -/
theorem test_v62_rla :
    ends ((ram [0x17]).set8 .a 0x95 |>.set8 .f 0x10) 1
      (fun t => t.get8 .a == 0x2B && t.get8 .f == 0x10 && t.pc == 0xC101) = true := by decide

/-- V63 (R363): RRA. -/
theorem test_v63_rra :
    ends ((ram [0x1F]).set8 .a 0x81 |>.set8 .f 0x00) 1
      (fun t => t.get8 .a == 0x40 && t.get8 .f == 0x10 && t.pc == 0xC101) = true := by decide

/-- V64 (R365): RLC B. -/
theorem test_v64_rlc_b :
    ends ((ram [0xCB, 0x00]).set8 .b 0x85 |>.set8 .f 0x00) 2
      (fun t => t.get8 .b == 0x0B && t.get8 .f == 0x10 && t.pc == 0xC102) = true := by decide

/-- V65 (R365): RLC (HL) of zero sets Z. -/
theorem test_v65_rlc_hl_of_zero_sets_z :
    ends ((ram [0xCB, 0x06]).set16 .hl 0xC000 |>.set8 .f 0x10 |>.placeByte 0xC000 0x00) 4
      (fun t => t.get8 .f == 0x80 && t.busRead 0xC000 == some 0x00 && t.pc == 0xC102) = true :=
        by decide

/-- V66 (R366): RRC C. -/
theorem test_v66_rrc_c :
    ends ((ram [0xCB, 0x09]).set8 .c 0x01 |>.set8 .f 0x00) 2
      (fun t => t.get8 .c == 0x80 && t.get8 .f == 0x10 && t.pc == 0xC102) = true := by decide

/-- V67 (R367): RL L to zero. -/
theorem test_v67_rl_l_to_zero :
    ends ((ram [0xCB, 0x15]).set8 .l 0x80 |>.set8 .f 0x00) 2
      (fun t => t.get8 .l == 0x00 && t.get8 .f == 0x90 && t.pc == 0xC102) = true := by decide

/-- V68 (R368): RR A to zero. -/
theorem test_v68_rr_a_to_zero :
    ends ((ram [0xCB, 0x1F]).set8 .a 0x01 |>.set8 .f 0x00) 2
      (fun t => t.get8 .a == 0x00 && t.get8 .f == 0x90 && t.pc == 0xC102) = true := by decide

/-- V69 (R369): SLA D. -/
theorem test_v69_sla_d :
    ends ((ram [0xCB, 0x22]).set8 .d 0x80 |>.set8 .f 0x00) 2
      (fun t => t.get8 .d == 0x00 && t.get8 .f == 0x90 && t.pc == 0xC102) = true := by decide

/-- V70 (R370): SRA A keeps bit 7. -/
theorem test_v70_sra_a_keeps_bit_7 :
    ends ((ram [0xCB, 0x2F]).set8 .a 0x8A |>.set8 .f 0x00) 2
      (fun t => t.get8 .a == 0xC5 && t.get8 .f == 0x00 && t.pc == 0xC102) = true := by decide

/-- V71 (R371): SWAP A. -/
theorem test_v71_swap_a :
    ends ((ram [0xCB, 0x37]).set8 .a 0xF1 |>.set8 .f 0x70) 2
      (fun t => t.get8 .a == 0x1F && t.get8 .f == 0x00 && t.pc == 0xC102) = true := by decide

/-- V72 (R372): SRL A. -/
theorem test_v72_srl_a :
    ends ((ram [0xCB, 0x3F]).set8 .a 0xFF |>.set8 .f 0x00) 2
      (fun t => t.get8 .a == 0x7F && t.get8 .f == 0x10 && t.pc == 0xC102) = true := by decide

/-- V73 (R373): BIT 7,H set bit. -/
theorem test_v73_bit_7_h_set_bit :
    ends ((ram [0xCB, 0x7C]).set8 .h 0x80 |>.set8 .f 0x00) 2
      (fun t => t.get8 .h == 0x80 && t.get8 .f == 0x20 && t.pc == 0xC102) = true := by decide

/-- V74 (R373): BIT 0,H clear bit keeps C. -/
theorem test_v74_bit_0_h_clear_bit_keeps_c :
    ends ((ram [0xCB, 0x44]).set8 .h 0x80 |>.set8 .f 0x10) 2
      (fun t => t.get8 .f == 0xB0 && t.pc == 0xC102) = true := by decide

/-- V75 (R373): BIT 3,(HL) is 3 M-cycles and writes nothing. -/
theorem test_v75_bit_3_hl_is_3_m_cycles_and_writes_nothing :
    ends ((ram [0xCB, 0x5E]).set16 .hl 0xC000 |>.set8 .f 0x00 |>.placeByte 0xC000 0x08) 3
      (fun t => t.get8 .f == 0x20 && t.busRead 0xC000 == some 0x08 && t.pc == 0xC102) = true :=
        by decide

/-- V76 (R374): RES 0,A. -/
theorem test_v76_res_0_a :
    ends ((ram [0xCB, 0x87]).set8 .a 0xFF |>.set8 .f 0x50) 2
      (fun t => t.get8 .a == 0xFE && t.get8 .f == 0x50 && t.pc == 0xC102) = true := by decide

/-- V77 (R375): SET 3,(HL). -/
theorem test_v77_set_3_hl :
    ends ((ram [0xCB, 0xDE]).set16 .hl 0xC000 |>.placeByte 0xC000 0x00) 4
      (fun t => t.busRead 0xC000 == some 0x08 && t.pc == 0xC102) = true := by decide

/-- V78 (R390): JP a16. -/
theorem test_v78_jp_a16 :
    ends (ram [0xC3, 0x50, 0xC1]) 4
      (fun t => t.pc == 0xC150) = true := by decide

/-- V79 (R390): JP 0xE000 faults at the latch, PC unchanged. -/
theorem test_v79_jp_0xe000_faults_at_the_latch_pc_unchanged :
    fails (ram [0xC3, 0x00, 0xE0]) =
      some (.unmappedAddressError 0xE000 .fetch) := by decide

/-- V80 (R391): JP Z not taken. -/
theorem test_v80_jp_z_not_taken :
    ends ((ram [0xCA, 0x00, 0x02]).set8 .f 0x40) 3
      (fun t => t.pc == 0xC103) = true := by decide

/-- V81 (R391): JP Z taken. -/
theorem test_v81_jp_z_taken :
    ends ((ram [0xCA, 0x00, 0x02]).set8 .f 0x80) 4
      (fun t => t.pc == 0x0200) = true := by decide

/-- V82 (R392): JP HL. -/
theorem test_v82_jp_hl :
    ends ((ram [0xE9]).set16 .hl 0xC000) 1
      (fun t => t.pc == 0xC000) = true := by decide

/-- V84 (R393): JR +127. -/
theorem test_v84_jr_plus_127 :
    ends (ram [0x18, 0x7F]) 3
      (fun t => t.pc == 0xC181) = true := by decide

/-- V85 (R393): JR -128. -/
theorem test_v85_jr_minus_128 :
    ends (ram [0x18, 0x80]) 3
      (fun t => t.pc == 0xC082) = true := by decide

/-- V86 (R394): JR NZ taken. -/
theorem test_v86_jr_nz_taken :
    ends ((holding 0xC109 [0x20, 0xFB] romOnlyCore).set8 .f 0x40) 3
      (fun t => t.pc == 0xC106) = true := by decide

/-- V87 (R394): JR C not taken. -/
theorem test_v87_jr_c_not_taken :
    ends ((ram [0x38, 0x10]).set8 .f 0x00) 2
      (fun t => t.pc == 0xC102) = true := by decide

/-- V88 (R395): CALL a16. -/
theorem test_v88_call_a16 :
    ends ((ram [0xCD, 0x10, 0xC2]).set16 .sp 0xD000) 6
      (fun t => t.get16 .sp == 0xCFFE && t.pc == 0xC210 && t.busRead 0xCFFE == some 0x03 &&
        t.busRead 0xCFFF == some 0xC1) = true := by decide

/-- V89 (R396): CALL NC not taken. -/
theorem test_v89_call_nc_not_taken :
    ends ((ram [0xD4, 0x00, 0x03]).set8 .f 0x10 |>.set16 .sp 0xD000) 3
      (fun t => t.get16 .sp == 0xD000 && t.pc == 0xC103) = true := by decide

/-- V90 (R397): RET. -/
theorem test_v90_ret :
    ends ((ram [0xC9]).set16 .sp 0xCFFE |>.placeByte 0xCFFE 0x06 |>.placeByte 0xCFFF 0x01) 4
      (fun t => t.pc == 0x0106 && t.get16 .sp == 0xD000) = true := by decide

/-- V91 (R398): RET Z taken. -/
theorem test_v91_ret_z_taken :
    ends ((ram [0xC8]).set8 .f 0x80 |>.set16 .sp 0xCFFE |>.placeByte 0xCFFE 0x06 |>.placeByte
        0xCFFF 0x01) 5
      (fun t => t.pc == 0x0106 && t.get16 .sp == 0xD000) = true := by decide

/-- V92 (R398): RET NZ not taken. -/
theorem test_v92_ret_nz_not_taken :
    ends ((ram [0xC0]).set8 .f 0x80 |>.set16 .sp 0xCFFE) 2
      (fun t => t.pc == 0xC101 && t.get16 .sp == 0xCFFE) = true := by decide

/-- V93 (R399): RETI sets IME at once. -/
theorem test_v93_reti_sets_ime_at_once :
    ends ((ram [0xD9]).set16 .sp 0xFFFC |>.placeByte 0xFFFC 0x06 |>.placeByte 0xFFFD 0x01) 4
      (fun t => t.pc == 0x0106 && t.get16 .sp == 0xFFFE && t.ime == true) = true := by decide

/-- V94 (R400): RST 0x28. -/
theorem test_v94_rst_0x28 :
    ends ((holding 0xC200 [0xEF] romOnlyCore).set16 .sp 0xFFFE) 4
      (fun t => t.get16 .sp == 0xFFFC && t.pc == 0x0028 && t.busRead 0xFFFC == some 0x01 &&
        t.busRead 0xFFFD == some 0xC2) = true := by decide

/-- V95 (R420): NOP. -/
theorem test_v95_nop :
    ends (ram [0x00]) 1
      (fun t => t.pc == 0xC101) = true := by decide

/-- V96 (R421): HALT with IME = 0, nothing pending. -/
theorem test_v96_halt_with_ime_0_nothing_pending :
    ends ((ram [0x76]).placeByte 0xFF0F 0x00 |>.placeByte 0xFFFF 0x00) 1
      (fun t => t.halted == true && t.pc == 0xC101) = true := by decide

/-- V97 (R421): HALT with IME = 0 and a pending line refuses (HaltBug). -/
theorem test_v97_halt_with_ime_0_and_a_pending_line_refuses_haltbug :
    fails ((ram [0x76]).placeByte 0xFF0F 0x01 |>.placeByte 0xFFFF 0x01) =
      some (.unimplementedOpcodeError 0x76 0xC100 .haltBug) := by decide

/-- V98 (R422): STOP refuses. -/
theorem test_v98_stop_refuses :
    fails (ram [0x10, 0x00]) =
      some (.unimplementedOpcodeError 0x10 0xC100 .stop) := by decide

/-- V99 (R423): DI. -/
theorem test_v99_di :
    ends { ram [0xF3] with ime := true } 1
      (fun t => t.ime == false && t.pc == 0xC101) = true := by decide

/-- V102 (R425): illegal 0xD3 refuses with no change. -/
theorem test_v102_illegal_0xd3_refuses_with_no_change :
    fails ((ram [0xD3]).set8 .a 0x12) =
      some (.illegalOpcodeError 0xD3 0xC100) := by decide

/-- V103 (R426): CB prefix: 0xCB 0xCB is SET 1,E. -/
theorem test_v103_cb_prefix_0xcb_0xcb_is_set_1_e :
    ends ((ram [0xCB, 0xCB]).set8 .e 0x00) 2
      (fun t => t.get8 .e == 0x02 && t.pc == 0xC102) = true := by decide

/-- V104 (R462): dispatch of the lowest pending line. -/
theorem test_v104_dispatch_of_the_lowest_pending_line :
    ends { (ram [0x00]).set16 .sp 0xD000 |>.placeByte 0xFF0F 0x05 |>.placeByte 0xFFFF 0x05 with
        ime := true } 5
      (fun t => t.ime == false && t.pc == 0x0040 && t.get16 .sp == 0xCFFE && t.busRead 0xCFFE ==
        some 0x00 && t.busRead 0xCFFF == some 0xC1 && t.busRead 0xFF0F == some 0x04) = true := by
        decide

/-- V105 (R461): IME = 0: no dispatch, instruction executes. -/
theorem test_v105_ime_0_no_dispatch_instruction_executes :
    ends ((ram [0x00]).placeByte 0xFF0F 0x05 |>.placeByte 0xFFFF 0x05) 1
      (fun t => t.pc == 0xC101 && t.busRead 0xFF0F == some 0x05) = true := by decide

/-- V106 (R463): dispatch before an illegal opcode. -/
theorem test_v106_dispatch_before_an_illegal_opcode :
    ends { (ram [0xD3]).set16 .sp 0xD000 |>.placeByte 0xFF0F 0x10 |>.placeByte 0xFFFF 0x10 with
        ime := true } 5
      (fun t => t.pc == 0x0060 && t.get16 .sp == 0xCFFE && t.ime == false && t.error == none &&
        t.busRead 0xCFFE == some 0x00 && t.busRead 0xCFFF == some 0xC1 && t.busRead 0xFF0F ==
        some 0x00) = true := by decide

/-- V107 (R470): dispatch push to IE refuses. -/
theorem test_v107_dispatch_push_to_ie_refuses :
    fails { (ram [0x00]).set16 .sp 0x0001 |>.placeByte 0xFF0F 0x01 |>.placeByte 0xFFFF 0x01 with
        ime := true } =
      some (.unimplementedOpcodeError 0x00 0xC100 .dispatchPushToIE) := by decide

/-- V108 (R467): idle halted step. -/
theorem test_v108_idle_halted_step :
    ends { (ram [0x00]).placeByte 0xFF0F 0x02 |>.placeByte 0xFFFF 0x01 with halted := true } 1
      (fun t => t.halted == true && t.pc == 0xC100) = true := by decide

/-- V109 (R467): wake with IME = 0 executes the next instruction. -/
theorem test_v109_wake_with_ime_0_executes_the_next_instruction :
    ends { (ram [0x3C]).set8 .a 0x00 |>.set8 .f 0x00 |>.placeByte 0xFF0F 0x02 |>.placeByte 0xFFFF
        0x02 with halted := true } 1
      (fun t => t.halted == false && t.get8 .a == 0x01 && t.pc == 0xC101) = true := by decide

/-- V113 (R105): MBC1 RAM disabled: read faults. -/
theorem test_v113_mbc1_ram_disabled_read_faults :
    fails (mbc1Ram [0xFA, 0x00, 0xA0]) =
      some (.unmappedAddressError 0xA000 .read) := by decide
/-! ## The bank table W3, and the controller at the edges of its ranges -/

/-- The byte at 0x4000 after the value is written to 0x2000, with 4 banks whose first bytes are
0xAA, 1, 2, 3 (W3: R96, R101, R104). -/
def windowAfter (v : Byte) : Option Byte :=
  (((mbc1Ram []).placeByte 0x0000 0xAA).busWrite 0x2000 v).bind fun t => t.busRead 0x4000

theorem test_w3_bank_table :
    [0x00, 0x01, 0x02, 0x03, 0x04, 0x05, 0x07, 0x20, 0xE3].map windowAfter =
      [some 0x01, some 0x01, some 0x02, some 0x03, some 0xAA, some 0x01, some 0x03, some 0x01,
        some 0x03] := by decide

/-- W8: 0x4123 with bank 3 selected is image byte 0xC123. -/
theorem test_w8_window_offset :
    (((mbc1Ram []).busWrite 0x3FFF 0x03).map fun t => t.romSwitchOffset 0x4123) = some 0xC123 := by
  decide

/-- W1: the alias of the pairs, and the masked nibble of F. -/
theorem test_w1_register_aliasing :
    ((romOnlyCore.set16 .bc 0x1234).set8 .c 0x56).get16 .bc = 0x1256 ∧
      ((romOnlyCore.set16 .de 0xBEEF).set8 .d 0x00).get16 .de = 0x00EF ∧
      (romOnlyCore.set16 .af 0x1234).get16 .af = 0x1230 ∧
      (romOnlyCore.set8 .f 0xFF).get8 .f = 0xF0 := by decide

/-- RomOnly has no writes below 0x8000 (R98). -/
theorem test_rom_only_write_faults :
    fails (ram [0xEA, 0x00, 0x20]) = some (.unmappedAddressError 0x2000 .write) := by decide

/-! ## Witnesses: for every obligation with hypotheses, a state and operands that meet them

A clause over a range of addresses has its witness at an edge of the range. -/

/-- What the clause `Coded.steps` assumes of a state, for an instruction and its bytes. -/
def CodedRuns (i : Instr) (bs : List Byte) (s : State) : Prop :=
  s.Executes ∧ s.awake.Fetched bs ∧
    ∃ t b, exec i s.awake = .next t ∧ t.busRead t.pc = some b

/-- The instruction answers a next state whose PC is mapped (or is not). -/
def nextMapped (mapped : Bool) (i : Instr) (s : State) : Bool :=
  match exec i s with
  | .next t => (t.busRead t.pc).isSome == mapped
  | .fault _ => false
  | .refused _ => false

theorem next_of_nextMapped {i : Instr} {s : State} (h : nextMapped true i s = true) :
    ∃ t b, exec i s = .next t ∧ t.busRead t.pc = some b := by
  unfold nextMapped at h
  split at h
  · rename_i t ht
    obtain ⟨b, hb⟩ := Option.isSome_iff_exists.mp (by simpa using h)
    exact ⟨t, b, ht, hb⟩
  · cases h
  · cases h

theorem next_of_notMapped {i : Instr} {s : State} (h : nextMapped false i s = true) :
    ∃ t, exec i s = .next t ∧ t.busRead t.pc = none := by
  unfold nextMapped at h
  split at h
  · rename_i t ht
    exact ⟨t, ht, by simpa using h⟩
  · cases h
  · cases h

theorem step_of_ends {s : State} {cyc : Nat} (h : ends s cyc (fun _ => true) = true) :
    ∃ t, step s = .next t := by
  unfold ends at h
  split at h
  · rename_i t ht
    exact ⟨t, ht⟩
  · cases h
  · cases h

/-- A core that is awake with interrupts off executes. -/
theorem executes_of {s : State} (he : s.error = none) (hh : s.halted = false)
    (hi : s.ime = false) : s.Executes :=
  ⟨he, fun h => absurd (hh.symm.trans h) (by decide), fun h => absurd (hi.symm.trans h) (by decide)⟩

theorem codedRuns_of {i : Instr} {bs : List Byte} {s : State} (he : s.error = none)
    (hh : s.halted = false) (hi : s.ime = false) (hf : s.awake.Fetched bs)
    (hn : nextMapped true i s.awake = true) : CodedRuns i bs s :=
  ⟨executes_of he hh hi, hf, next_of_nextMapped hn⟩

theorem fetched_two {s : State} {o b : Byte} (h : o = s.ir)
    (h1 : s.busRead (s.pc + 1) = some b) : s.Fetched [o, b] := ⟨h, h1⟩

theorem fetched_three {s : State} {o b c : Byte} (h : o = s.ir)
    (h1 : s.busRead (s.pc + 1) = some b) (h2 : s.busRead (s.pc + 2) = some c) :
    s.Fetched [o, b, c] := ⟨h, h1, h2⟩

theorem writable_work_ram (s : State) {a : Word} (h : 0xC000 ≤ a.toNat ∧ a.toNat < 0xE000) :
    s.Writable a := by
  unfold State.Writable
  rw [if_neg (by omega), if_neg (by omega)]
  omega

theorem not_writable_echo (s : State) {a : Word} (h : 0xE000 ≤ a.toNat ∧ a.toNat < 0xFE00) :
    ¬s.Writable a := by
  unfold State.Writable
  rw [if_neg (by omega), if_neg (by omega)]
  omega

/-- The three faults of `Coded`: the second byte of a two-byte row at 0xE000, the third byte of a
three-byte row there, and the latch of the byte after a row at 0xDFFF. -/
theorem test_witness_coded_faults :
    (let s := holding 0xDFFF [0x3E] romOnlyCore
     s.Executes ∧ [0x3E, 0x05].head? = some s.ir ∧ s.awake.busRead (s.pc + 1) = none) ∧
    (let s := holding 0xDFFE [0xC3, 0x50] romOnlyCore
     s.Executes ∧ [0xC3, 0x50, 0xC1].head? = some s.ir ∧
       s.awake.busRead (s.pc + 1) = some 0x50 ∧ s.awake.busRead (s.pc + 2) = none) ∧
    (let s := holding 0xDFFF [0x48] romOnlyCore
     s.Executes ∧ s.awake.Fetched [0x48] ∧
       ∃ t, exec .ld_c_b s.awake = .next t ∧ t.busRead t.pc = none) :=
  ⟨⟨executes_of rfl rfl rfl, by decide, by decide⟩,
    ⟨executes_of rfl rfl rfl, by decide, by decide, by decide⟩,
    ⟨executes_of rfl rfl rfl, rfl, next_of_notMapped (by decide)⟩⟩

/-! ### Construction, memory and the host -/

/-- A launch both obligations about construction can be applied to: MBC1, initial memory with one
byte written twice, the last byte of cartridge RAM, and a request bit the host sets before the
second step. -/
def mbc1Launch : Launch :=
  { controller := .mbc1, romBankCount := 2, ramSize := 0x800,
    romImage := List.replicate 0x8000 0x3C,
    initialMem := [(0xC000, 0x11), (0xFFFF, 0x1F), (0xC000, 0x22)],
    initialCartRam := [(0x7FF, 0x33)],
    hostInput := [[], [.io 0x0F 0x04]] }

/-- The RomOnly launch of 95_test_vectors section 1. -/
def romOnlyLaunch : Launch :=
  { controller := .romOnly, romBankCount := 2, ramSize := 0,
    romImage := List.replicate 0x8000 0x00, initialMem := [], initialCartRam := [], hostInput := [] }

theorem mbc1Launch_length : mbc1Launch.romImage.length = mbc1Launch.romBankCount * 0x4000 :=
  List.length_replicate

theorem romOnlyLaunch_length :
    romOnlyLaunch.romImage.length = romOnlyLaunch.romBankCount * 0x4000 :=
  List.length_replicate

theorem check_of_length (p : Launch) (hc : p.controller = .mbc1 ∨ p.controller = .romOnly)
    (hb : p.bankCountOk = true) (hr : p.ramSizeOk = true)
    (hl : p.romImage.length = p.romBankCount * 0x4000) : p.check = none := by
  unfold Launch.check
  rcases hc with hc | hc <;> rw [hc] <;> simp [hb, hr, hl, Config.bankSize]

theorem test_witness_constructed_core :
    (mbc1Launch.check = none ∧ mbc1Launch.controller = .mbc1 ∧
      mbc1Launch.romImage[0x7FFF]? = some 0x3C ∧ storageAddress 0xC000 = true ∧
      mbc1Launch.initialMem.reverse.find? (fun x => x.1 == 0xC000) = some (0xC000, 0x22) ∧
      0x7FF < mbc1Launch.ramSize ∧
      mbc1Launch.initialCartRam.reverse.find? (fun x => x.1 == 0x7FF) = some (0x7FF, 0x33)) ∧
    romOnlyLaunch.check = none ∧ romOnlyLaunch.controller = .romOnly :=
  ⟨⟨check_of_length mbc1Launch (.inl rfl) (by decide) (by decide) mbc1Launch_length, rfl,
    (List.getElem?_replicate).trans (if_pos (by decide)), by decide, by decide, by decide,
    by decide⟩,
    check_of_length romOnlyLaunch (.inr rfl) (by decide) (by decide) romOnlyLaunch_length, rfl⟩

/-- The four refusals in their order, and a launch with none of them, for each controller. -/
theorem test_witness_construction_errors :
    (({ mbc1Launch with controller := .other 3 } : Launch).controller = .other 3) ∧
    (∀ n ∈ [1, 3, 64], n ∉ [2, 4, 8, 16, 32]) ∧ 4 ∉ [2] ∧
    mbc1Launch.romBankCount ∈ [2, 4, 8, 16, 32] ∧ 0x1000 ∉ [0, 0x800, 0x2000, 0x8000] ∧
    romOnlyLaunch.romBankCount ∈ [2] ∧ 0x800 ∉ [0] ∧
    mbc1Launch.ramSize ∈ [0, 0x800, 0x2000, 0x8000] ∧ romOnlyLaunch.ramSize ∈ [0] ∧
    ({ mbc1Launch with romImage := [] } : Launch).romImage.length ≠
      mbc1Launch.romBankCount * 0x4000 ∧
    mbc1Launch.romImage.length = mbc1Launch.romBankCount * 0x4000 ∧
    romOnlyLaunch.romImage.length = romOnlyLaunch.romBankCount * 0x4000 :=
  ⟨rfl, by decide, by decide, by decide, by decide, by decide, by decide, by decide,
    by decide, by decide, mbc1Launch_length, romOnlyLaunch_length⟩

/-- Each region at both edges, with the two ranges that are not recognized. -/
theorem test_witness_bus_read_routing :
    (∃ r, (mbc1Ram []).bank = .mbc1 r) ∧ romOnlyCore.bank = .romOnly ∧
    [0x0000, 0x3FFF, 0x4000, 0x7FFF, 0x8000, 0x9FFF, 0xC000, 0xDFFF, 0xE000, 0xFDFF, 0xFE00, 0xFE9F,
        0xFEA0, 0xFEFF, 0xFF00, 0xFFFF].map (fun a : Word => (romOnlyCore.busRead a).isSome) =
      [true, true, true, true, true, true, true, true, false, false, true, true, false, false, true,
        true] ∧
    [0x0000, 0x3FFF, 0x4000, 0x7FFF].map (fun a : Word => (mbc1Ram []).busRead a) =
      [some 0, some 0, some 1, some 0] :=
  ⟨⟨_, rfl⟩, rfl, by decide, by decide⟩

/-- BANK1 = 1 of a 32-bank cartridge, and BANK1 = 4 of a 4-bank one, whose effective bank is 0. -/
theorem test_witness_effective_bank_masked :
    (∃ r, ({ State.reset with romBankCount := 32 } : State).bank = .mbc1 r) ∧
    (32 : Nat) ∈ [2, 4, 8, 16, 32] ∧
    ({ State.reset with romBankCount := 32 } : State).effRomBank = 1 ∧
    ((State.reset.busWrite 0x2000 4).map fun t => t.effRomBank) = some 0 :=
  ⟨⟨_, rfl⟩, by decide, by decide, by decide⟩

/-- A core whose cartridge RAM of the given size is enabled, in mode 1 with bank 3 selected. -/
def cartCore (size : Nat) : State :=
  { State.reset with
    ramSize := size, bank := .mbc1 { ramEn := true, bank1 := 1, bank2 := 3, mode := true } }

/-- The first and the last byte of the window of 0x8000 bytes, bank 3, the last byte of a window of
0x800 bytes, and no byte behind it or behind a disabled RAM. -/
theorem test_witness_cartridge_ram_access :
    (cartCore 0x8000).CartRamByte 0xA000 0x6000 ∧ (cartCore 0x8000).CartRamByte 0xBFFF 0x7FFF ∧
    (cartCore 0x800).CartRamByte 0xA7FF 0x7FF ∧ (∀ i, ¬(cartCore 0x800).CartRamByte 0xA800 i) ∧
    ∀ i, ¬State.reset.CartRamByte 0xA000 i := by
  refine ⟨⟨_, rfl, by decide⟩, ⟨_, rfl, by decide⟩, ⟨_, rfl, by decide⟩, ?_, ?_⟩
  · rintro i ⟨r, -, -, -, h, -⟩
    exact absurd h (by decide)
  · rintro i ⟨r, h, h2, -⟩
    obtain rfl := BankController.mbc1.inj h.symm
    exact absurd h2 (by decide)

/-- Each control range at both edges: RAM_EN, BANK1, BANK2 and MODE as the value sets them. -/
theorem test_witness_control_writes :
    (∃ r, State.reset.bank = .mbc1 r) ∧
    [0x0000, 0x1FFF, 0x2000, 0x3FFF, 0x4000, 0x5FFF, 0x6000, 0x7FFF].map
        (fun a : Word => ((State.reset.busWrite a 0xEA).map fun t => t.bank)) =
      [some (.mbc1 ⟨true, 1, 0, false⟩), some (.mbc1 ⟨true, 1, 0, false⟩),
        some (.mbc1 ⟨false, 10, 0, false⟩), some (.mbc1 ⟨false, 10, 0, false⟩),
        some (.mbc1 ⟨false, 1, 2, false⟩), some (.mbc1 ⟨false, 1, 2, false⟩),
        some (.mbc1 ⟨false, 1, 0, false⟩), some (.mbc1 ⟨false, 1, 0, false⟩)] :=
  ⟨⟨_, rfl⟩, by decide⟩

/-- A control address, a byte of cartridge RAM and both edges of work RAM can be written; a control
address of RomOnly, disabled cartridge RAM and the edges of the two unrecognized ranges can not. -/
theorem test_witness_write_stores_once :
    State.reset.Writable 0x7FFF ∧ (cartCore 0x8000).Writable 0xA000 ∧
    State.reset.Writable 0xC000 ∧ State.reset.Writable 0xDFFF ∧ State.reset.Writable 0xFFFF ∧
    ¬romOnlyCore.Writable 0x7FFF ∧ ¬State.reset.Writable 0xBFFF ∧ ¬State.reset.Writable 0xE000 ∧
    ¬State.reset.Writable 0xFDFF ∧ ¬State.reset.Writable 0xFEA0 ∧ ¬State.reset.Writable 0xFEFF := by
  refine ⟨by simp [State.Writable, State.reset], ?_, ?_⟩
  · exact ⟨_, test_witness_cartridge_ram_access.1⟩
  · refine ⟨by simp [State.Writable], by simp [State.Writable], by simp [State.Writable],
      by simp [State.Writable, romOnlyCore], ?_, by simp [State.Writable], by simp [State.Writable],
      by simp [State.Writable], by simp [State.Writable]⟩
    rintro ⟨i, r, h, h2, -⟩
    obtain rfl := BankController.mbc1.inj h.symm
    exact absurd h2 (by decide)

/-- The first and the last byte the host may write in each of its two ranges, one of them twice. -/
theorem test_witness_host_writes_only_its_bytes :
    let ws : List HostWrite := [.io 0 0x11, .io 0x7F 0x22, .oam 0 0x33, .oam 0x9F 0x44, .io 0 0x55]
    let s : State := { State.reset with hostInput := [ws] }
    s.hostInput = [ws] ∧
      [0xFF00, 0xFF7F, 0xFE00, 0xFE9F].map s.hostPhase.mem.read = [0x55, 0x22, 0x33, 0x44] :=
  ⟨rfl, by decide⟩

/-! ### Loads, stores and the stack -/

theorem test_witness_load_register_register :
    R8.c.reg = some .c ∧ R8.b.reg = some .b ∧ CodedRuns .ld_c_b [0x48] (ram [0x48]) :=
  ⟨rfl, rfl, codedRuns_of rfl rfl rfl rfl (by decide)⟩

/-- HL at the last mapped byte of work RAM, and just past it. -/
theorem test_witness_moves_through_hl :
    R8.b.reg = some .b ∧
    (let s := (ram [0x46]).set16 .hl 0xDFFF
     CodedRuns .ld_b_mhl [0x46] s ∧ s.busRead s.hl = some 0) ∧
    (let s := (ram [0x70]).set16 .hl 0xDFFF
     CodedRuns .ld_mhl_b [0x70] s ∧ s.Writable s.hl) ∧
    let s := (ram []).set16 .hl 0xE000
    s.busRead s.hl = none ∧ ¬s.Writable s.hl :=
  ⟨rfl, ⟨codedRuns_of rfl rfl rfl rfl (by decide), by decide⟩,
    ⟨codedRuns_of rfl rfl rfl rfl (by decide), writable_work_ram _ (by decide)⟩,
    by decide, not_writable_echo _ (by decide)⟩

theorem test_witness_load_immediate :
    R8.a.reg = some .a ∧ CodedRuns (.ld_a_d8 0x05) [0x3E, 0x05] (ram [0x3E, 0x05]) ∧
    (let s := (ram [0x36, 0x7F]).set16 .hl 0xDFFF
     CodedRuns (.ld_mhl_d8 0x7F) [0x36, 0x7F] s ∧ s.Writable s.hl) ∧
    let s := (ram []).set16 .hl 0xE000
    ¬s.Writable s.hl :=
  ⟨rfl, codedRuns_of rfl rfl rfl (fetched_two rfl (by decide)) (by decide),
    ⟨codedRuns_of rfl rfl rfl (fetched_two rfl (by decide)) (by decide), writable_work_ram _ (by decide)⟩,
    not_writable_echo _ (by decide)⟩

/-- The address at the last byte of work RAM, and just past it. -/
theorem test_witness_load_accumulator_from_address :
    CodedRuns .ld_a_mbc [0x0A] (ram [0x0A]) ∧
    CodedRuns .ld_a_mde [0x1A] (ram [0x1A]) ∧
    CodedRuns (.ld_a_ma16 0xDFFF) [0xFA, 0xFF, 0xDF] (ram [0xFA, 0xFF, 0xDF]) ∧
    (((ram []).set16 .bc 0xDFFF).busRead (((ram []).set16 .bc 0xDFFF).get16 .bc)).isSome = true ∧
    (((ram []).set16 .de 0xDFFF).busRead (((ram []).set16 .de 0xDFFF).get16 .de)).isSome = true ∧
    ((ram []).set16 .bc 0xE000).busRead (((ram []).set16 .bc 0xE000).get16 .bc) = none ∧
    ((ram []).set16 .de 0xE000).busRead (((ram []).set16 .de 0xE000).get16 .de) = none ∧
    ((ram []).busRead 0xDFFF).isSome = true ∧
    (ram []).busRead 0xE000 = none :=
  ⟨codedRuns_of rfl rfl rfl rfl (by decide),
    codedRuns_of rfl rfl rfl rfl (by decide),
    codedRuns_of rfl rfl rfl (fetched_three rfl (by decide) (by decide)) (by decide),
    by decide,
    by decide,
    by decide,
    by decide,
    by decide,
    by decide⟩

/-- The address at the last byte of work RAM, and just past it. -/
theorem test_witness_store_accumulator_to_address :
    CodedRuns .ld_mbc_a [0x02] ((ram [0x02]).set16 .bc 0xDFFF) ∧
    CodedRuns .ld_mde_a [0x12] ((ram [0x12]).set16 .de 0xDFFF) ∧
    CodedRuns (.ld_ma16_a 0xDFFF) [0xEA, 0xFF, 0xDF] (ram [0xEA, 0xFF, 0xDF]) ∧
    ((ram []).set16 .bc 0xDFFF).Writable (((ram []).set16 .bc 0xDFFF).get16 .bc) ∧
    ((ram []).set16 .de 0xDFFF).Writable (((ram []).set16 .de 0xDFFF).get16 .de) ∧
    ¬((ram []).set16 .bc 0xE000).Writable (((ram []).set16 .bc 0xE000).get16 .bc) ∧
    ¬((ram []).set16 .de 0xE000).Writable (((ram []).set16 .de 0xE000).get16 .de) ∧
    (ram []).Writable 0xDFFF ∧
    ¬(ram []).Writable 0xE000 :=
  ⟨codedRuns_of rfl rfl rfl rfl (by decide),
    codedRuns_of rfl rfl rfl rfl (by decide),
    codedRuns_of rfl rfl rfl (fetched_three rfl (by decide) (by decide)) (by decide),
    writable_work_ram _ (by decide),
    writable_work_ram _ (by decide),
    not_writable_echo _ (by decide),
    not_writable_echo _ (by decide),
    writable_work_ram _ (by decide),
    not_writable_echo _ (by decide)⟩

theorem test_witness_high_page_moves :
    CodedRuns (.ldh_ma8_a 0xFF) [0xE0, 0xFF] (ram [0xE0, 0xFF]) ∧
    CodedRuns (.ldh_a_ma8 0x00) [0xF0, 0x00] (ram [0xF0, 0x00]) ∧
    CodedRuns .ld_mc_a [0xE2] (ram [0xE2]) ∧
    CodedRuns .ld_a_mc [0xF2] (ram [0xF2]) :=
  ⟨codedRuns_of rfl rfl rfl (fetched_two rfl (by decide)) (by decide),
    codedRuns_of rfl rfl rfl (fetched_two rfl (by decide)) (by decide),
    codedRuns_of rfl rfl rfl rfl (by decide),
    codedRuns_of rfl rfl rfl rfl (by decide)⟩

/-- The address at the last byte of work RAM, and just past it. -/
theorem test_witness_moves_through_stepped_hl :
    CodedRuns .ld_mhli_a [0x22] ((ram [0x22]).set16 .hl 0xDFFF) ∧
    CodedRuns .ld_mhld_a [0x32] ((ram [0x32]).set16 .hl 0xDFFF) ∧
    CodedRuns .ld_a_mhli [0x2A] ((ram [0x2A]).set16 .hl 0xDFFF) ∧
    CodedRuns .ld_a_mhld [0x3A] ((ram [0x3A]).set16 .hl 0xDFFF) ∧
    (((ram []).set16 .hl 0xDFFF).busRead ((ram []).set16 .hl 0xDFFF).hl).isSome = true ∧
    ((ram []).set16 .hl 0xE000).busRead ((ram []).set16 .hl 0xE000).hl = none ∧
    ((ram []).set16 .hl 0xDFFF).Writable ((ram []).set16 .hl 0xDFFF).hl ∧
    ¬((ram []).set16 .hl 0xE000).Writable ((ram []).set16 .hl 0xE000).hl :=
  ⟨codedRuns_of rfl rfl rfl rfl (by decide),
    codedRuns_of rfl rfl rfl rfl (by decide),
    codedRuns_of rfl rfl rfl rfl (by decide),
    codedRuns_of rfl rfl rfl rfl (by decide),
    by decide,
    by decide,
    writable_work_ram _ (by decide),
    not_writable_echo _ (by decide)⟩

theorem test_witness_load_word :
    CodedRuns (.ld_bc_d16 0x120F) [0x01, 0x0F, 0x12] (ram [0x01, 0x0F, 0x12]) ∧
    CodedRuns .ld_sp_hl [0xF9] (ram [0xF9]) :=
  ⟨codedRuns_of rfl rfl rfl (fetched_three rfl (by decide) (by decide)) (by decide),
    codedRuns_of rfl rfl rfl rfl (by decide)⟩

/-- Both bytes, the first or only the second of them without a legal target. -/
theorem test_witness_store_stack_pointer :
    CodedRuns (.ld_ma16_sp 0xC100) [0x08, 0x00, 0xC1] (holding 0xC200 [0x08, 0x00, 0xC1] romOnlyCore) ∧
    (ram []).Writable 0xDFFE ∧
    (ram []).Writable (0xDFFE + 1) ∧
    ¬(ram []).Writable 0xE000 ∧
    (ram []).Writable 0xDFFF ∧
    ¬(ram []).Writable (0xDFFF + 1) :=
  ⟨codedRuns_of rfl rfl rfl (fetched_three rfl (by decide) (by decide)) (by decide),
    writable_work_ram _ (by decide),
    writable_work_ram _ (by decide),
    not_writable_echo _ (by decide),
    writable_work_ram _ (by decide),
    not_writable_echo _ (by decide)⟩

/-- The first mapped address after the echo range is writable: object attribute memory. -/
theorem writable_oam (s : State) {a : Word} (h : a.toNat = 0xFE00) : s.Writable a := by
  unfold State.Writable
  rw [if_neg (by omega), if_neg (by omega)]
  omega

/-- The three clauses of a push: both bytes at the edge of work RAM, the first byte past it, and
only the second in the echo range. -/
theorem test_witness_push_form :
    (let s := (ram []).set16 .sp 0xE000
     s.Writable (s.sp - 1) ∧ s.Writable (s.sp - 2)) ∧
    (let s := (ram []).set16 .sp 0xE001
     ¬s.Writable (s.sp - 1)) ∧
    (let s := (ram []).set16 .sp 0xFE01
     s.Writable (s.sp - 1) ∧ ¬s.Writable (s.sp - 2)) :=
  ⟨⟨writable_work_ram _ (by decide), writable_work_ram _ (by decide)⟩,
    not_writable_echo _ (by decide), writable_oam _ (by decide), not_writable_echo _ (by decide)⟩

/-- The three clauses of a pop: both bytes mapped, the first or only the second of them past the
edge of work RAM. -/
theorem test_witness_pop_form :
    (let s := (ram []).set16 .sp 0xDFFE
     s.busRead s.sp = some 0 ∧ s.busRead (s.sp + 1) = some 0) ∧
    (let s := (ram []).set16 .sp 0xE000
     s.busRead s.sp = none) ∧
    (let s := (ram []).set16 .sp 0xDFFF
     s.busRead s.sp = some 0 ∧ s.busRead (s.sp + 1) = none) :=
  ⟨⟨by decide, by decide⟩, by decide, by decide, by decide⟩

/-- The other clauses: `test_witness_push_form`. -/
theorem test_witness_push_pair :
    CodedRuns .push_bc [0xC5] (ram [0xC5]) ∧
    ((ram []).set16 .sp 0xE000).Writable (0xE000 - 1) ∧
    ((ram []).set16 .sp 0xE000).Writable (0xE000 - 2) :=
  ⟨codedRuns_of rfl rfl rfl rfl (by decide),
    test_witness_push_form.1.1,
    test_witness_push_form.1.2⟩

/-- The other clauses: `test_witness_pop_form`. -/
theorem test_witness_pop_pair :
    CodedRuns .pop_af [0xF1] ((ram [0xF1]).set16 .sp 0xDFFE) ∧
    ((ram []).set16 .sp 0xDFFE).busRead 0xDFFE = some 0 ∧
    ((ram []).set16 .sp 0xDFFE).busRead 0xDFFF = some 0 :=
  ⟨codedRuns_of rfl rfl rfl rfl (by decide),
    by decide,
    by decide⟩

/-! ### Arithmetic, logic and rotates -/

/-- A register operand, the byte at HL (mapped and not) and an immediate. -/
theorem test_witness_add_and_add_with_carry :
    R8.l.reg = some .l ∧
    CodedRuns .add_a_l [0x85] (ram [0x85]) ∧
    CodedRuns .add_a_mhl [0x86] (ram [0x86]) ∧
    CodedRuns (.add_a_d8 0x01) [0xC6, 0x01] (ram [0xC6, 0x01]) ∧
    CodedRuns .adc_a_l [0x8D] (ram [0x8D]) ∧
    CodedRuns .adc_a_mhl [0x8E] (ram [0x8E]) ∧
    CodedRuns (.adc_a_d8 0x01) [0xCE, 0x01] (ram [0xCE, 0x01]) ∧
    (((ram []).set16 .hl 0xDFFF).busRead ((ram []).set16 .hl 0xDFFF).hl).isSome = true ∧
    ((ram []).set16 .hl 0xE000).busRead ((ram []).set16 .hl 0xE000).hl = none :=
  ⟨rfl,
    codedRuns_of rfl rfl rfl rfl (by decide),
    codedRuns_of rfl rfl rfl rfl (by decide),
    codedRuns_of rfl rfl rfl (fetched_two rfl (by decide)) (by decide),
    codedRuns_of rfl rfl rfl rfl (by decide),
    codedRuns_of rfl rfl rfl rfl (by decide),
    codedRuns_of rfl rfl rfl (fetched_two rfl (by decide)) (by decide),
    by decide,
    by decide⟩

/-- A register operand, the byte at HL (mapped and not) and an immediate. -/
theorem test_witness_subtract_and_compare :
    R8.l.reg = some .l ∧
    CodedRuns .sub_l [0x95] (ram [0x95]) ∧
    CodedRuns .sub_mhl [0x96] (ram [0x96]) ∧
    CodedRuns (.sub_d8 0x01) [0xD6, 0x01] (ram [0xD6, 0x01]) ∧
    CodedRuns .sbc_a_l [0x9D] (ram [0x9D]) ∧
    CodedRuns .sbc_a_mhl [0x9E] (ram [0x9E]) ∧
    CodedRuns (.sbc_a_d8 0x01) [0xDE, 0x01] (ram [0xDE, 0x01]) ∧
    CodedRuns .cp_l [0xBD] (ram [0xBD]) ∧
    CodedRuns .cp_mhl [0xBE] (ram [0xBE]) ∧
    CodedRuns (.cp_d8 0x01) [0xFE, 0x01] (ram [0xFE, 0x01]) ∧
    (((ram []).set16 .hl 0xDFFF).busRead ((ram []).set16 .hl 0xDFFF).hl).isSome = true ∧
    ((ram []).set16 .hl 0xE000).busRead ((ram []).set16 .hl 0xE000).hl = none :=
  ⟨rfl,
    codedRuns_of rfl rfl rfl rfl (by decide),
    codedRuns_of rfl rfl rfl rfl (by decide),
    codedRuns_of rfl rfl rfl (fetched_two rfl (by decide)) (by decide),
    codedRuns_of rfl rfl rfl rfl (by decide),
    codedRuns_of rfl rfl rfl rfl (by decide),
    codedRuns_of rfl rfl rfl (fetched_two rfl (by decide)) (by decide),
    codedRuns_of rfl rfl rfl rfl (by decide),
    codedRuns_of rfl rfl rfl rfl (by decide),
    codedRuns_of rfl rfl rfl (fetched_two rfl (by decide)) (by decide),
    by decide,
    by decide⟩

/-- A register operand, the byte at HL (mapped and not) and an immediate. -/
theorem test_witness_logic_operations :
    R8.l.reg = some .l ∧
    CodedRuns .and_l [0xA5] (ram [0xA5]) ∧
    CodedRuns .and_mhl [0xA6] (ram [0xA6]) ∧
    CodedRuns (.and_d8 0x01) [0xE6, 0x01] (ram [0xE6, 0x01]) ∧
    CodedRuns .xor_l [0xAD] (ram [0xAD]) ∧
    CodedRuns .xor_mhl [0xAE] (ram [0xAE]) ∧
    CodedRuns (.xor_d8 0x01) [0xEE, 0x01] (ram [0xEE, 0x01]) ∧
    CodedRuns .or_l [0xB5] (ram [0xB5]) ∧
    CodedRuns .or_mhl [0xB6] (ram [0xB6]) ∧
    CodedRuns (.or_d8 0x01) [0xF6, 0x01] (ram [0xF6, 0x01]) ∧
    (((ram []).set16 .hl 0xDFFF).busRead ((ram []).set16 .hl 0xDFFF).hl).isSome = true ∧
    ((ram []).set16 .hl 0xE000).busRead ((ram []).set16 .hl 0xE000).hl = none ∧
    7 < 8 :=
  ⟨rfl,
    codedRuns_of rfl rfl rfl rfl (by decide),
    codedRuns_of rfl rfl rfl rfl (by decide),
    codedRuns_of rfl rfl rfl (fetched_two rfl (by decide)) (by decide),
    codedRuns_of rfl rfl rfl rfl (by decide),
    codedRuns_of rfl rfl rfl rfl (by decide),
    codedRuns_of rfl rfl rfl (fetched_two rfl (by decide)) (by decide),
    codedRuns_of rfl rfl rfl rfl (by decide),
    codedRuns_of rfl rfl rfl rfl (by decide),
    codedRuns_of rfl rfl rfl (fetched_two rfl (by decide)) (by decide),
    by decide,
    by decide,
    by decide⟩

/-- The last byte of the switchable window of RomOnly is mapped and has no legal write: the write of
a read-modify-write instruction at it faults, after the read. -/
theorem test_witness_read_but_not_write :
    let s := (ram []).set16 .hl 0x7FFF
    s.busRead s.hl = some 0 ∧ ¬s.Writable s.hl :=
  ⟨by decide, fun h => h rfl⟩

/-- With `test_witness_read_but_not_write` for the write that faults. -/
theorem test_witness_increment_and_decrement :
    R8.b.reg = some .b ∧
    CodedRuns .inc_b [0x04] (ram [0x04]) ∧
    CodedRuns .dec_b [0x05] (ram [0x05]) ∧
    CodedRuns .inc_mhl [0x34] ((ram [0x34]).set16 .hl 0xDFFF) ∧
    CodedRuns .dec_mhl [0x35] ((ram [0x35]).set16 .hl 0xDFFF) ∧
    (((ram []).set16 .hl 0xDFFF).busRead ((ram []).set16 .hl 0xDFFF).hl).isSome = true ∧
    ((ram []).set16 .hl 0xDFFF).Writable ((ram []).set16 .hl 0xDFFF).hl ∧
    ((ram []).set16 .hl 0xE000).busRead ((ram []).set16 .hl 0xE000).hl = none :=
  ⟨rfl,
    codedRuns_of rfl rfl rfl rfl (by decide),
    codedRuns_of rfl rfl rfl rfl (by decide),
    codedRuns_of rfl rfl rfl rfl (by decide),
    codedRuns_of rfl rfl rfl rfl (by decide),
    by decide,
    writable_work_ram _ (by decide),
    by decide⟩

theorem test_witness_decimal_adjust :
    CodedRuns .daa [0x27] (ram [0x27]) :=
  codedRuns_of rfl rfl rfl rfl (by decide)

theorem test_witness_complement_and_carry :
    CodedRuns .cpl [0x2F] (ram [0x2F]) ∧
    CodedRuns .scf [0x37] (ram [0x37]) ∧
    CodedRuns .ccf [0x3F] (ram [0x3F]) :=
  ⟨codedRuns_of rfl rfl rfl rfl (by decide),
    codedRuns_of rfl rfl rfl rfl (by decide),
    codedRuns_of rfl rfl rfl rfl (by decide)⟩

theorem test_witness_add_to_hl :
    CodedRuns .add_hl_sp [0x39] (ram [0x39]) :=
  codedRuns_of rfl rfl rfl rfl (by decide)

theorem test_witness_step_word_register :
    CodedRuns .inc_sp [0x33] (ram [0x33]) ∧
    CodedRuns .dec_bc [0x0B] (ram [0x0B]) :=
  ⟨codedRuns_of rfl rfl rfl rfl (by decide),
    codedRuns_of rfl rfl rfl rfl (by decide)⟩

theorem test_witness_stack_pointer_plus_displacement :
    CodedRuns (.add_sp_e8 0x80) [0xE8, 0x80] (ram [0xE8, 0x80]) ∧
    CodedRuns (.ld_hl_sp_e8 0x7F) [0xF8, 0x7F] (ram [0xF8, 0x7F]) :=
  ⟨codedRuns_of rfl rfl rfl (fetched_two rfl (by decide)) (by decide),
    codedRuns_of rfl rfl rfl (fetched_two rfl (by decide)) (by decide)⟩

theorem test_witness_accumulator_rotates :
    CodedRuns .rlca [0x07] (ram [0x07]) ∧
    CodedRuns .rrca [0x0F] (ram [0x0F]) ∧
    CodedRuns .rla [0x17] (ram [0x17]) ∧
    CodedRuns .rra [0x1F] (ram [0x1F]) :=
  ⟨codedRuns_of rfl rfl rfl rfl (by decide),
    codedRuns_of rfl rfl rfl rfl (by decide),
    codedRuns_of rfl rfl rfl rfl (by decide),
    codedRuns_of rfl rfl rfl rfl (by decide)⟩

/-- With `test_witness_read_but_not_write` for the write that faults. -/
theorem test_witness_rotates_and_shifts :
    R8.b.reg = some .b ∧
    CodedRuns .rlc_b [0xCB, 0x00] (ram [0xCB, 0x00]) ∧
    CodedRuns .swap_mhl [0xCB, 0x36] ((ram [0xCB, 0x36]).set16 .hl 0xDFFF) ∧
    (((ram []).set16 .hl 0xDFFF).busRead ((ram []).set16 .hl 0xDFFF).hl).isSome = true ∧
    ((ram []).set16 .hl 0xDFFF).Writable ((ram []).set16 .hl 0xDFFF).hl ∧
    ((ram []).set16 .hl 0xE000).busRead ((ram []).set16 .hl 0xE000).hl = none :=
  ⟨rfl,
    codedRuns_of rfl rfl rfl (fetched_two rfl (by decide)) (by decide),
    codedRuns_of rfl rfl rfl (fetched_two rfl (by decide)) (by decide),
    by decide,
    writable_work_ram _ (by decide),
    by decide⟩

theorem test_witness_test_bit :
    R8.b.reg = some .b ∧
    CodedRuns .bit_7_b [0xCB, 0x78] (ram [0xCB, 0x78]) ∧
    CodedRuns .bit_0_mhl [0xCB, 0x46] (ram [0xCB, 0x46]) ∧
    (((ram []).set16 .hl 0xDFFF).busRead ((ram []).set16 .hl 0xDFFF).hl).isSome = true ∧
    ((ram []).set16 .hl 0xE000).busRead ((ram []).set16 .hl 0xE000).hl = none :=
  ⟨rfl,
    codedRuns_of rfl rfl rfl (fetched_two rfl (by decide)) (by decide),
    codedRuns_of rfl rfl rfl (fetched_two rfl (by decide)) (by decide),
    by decide,
    by decide⟩

/-- With `test_witness_read_but_not_write` for the write that faults. -/
theorem test_witness_reset_and_set_bit :
    R8.b.reg = some .b ∧
    CodedRuns .res_0_b [0xCB, 0x80] (ram [0xCB, 0x80]) ∧
    CodedRuns .set_7_mhl [0xCB, 0xFE] ((ram [0xCB, 0xFE]).set16 .hl 0xDFFF) ∧
    (((ram []).set16 .hl 0xDFFF).busRead ((ram []).set16 .hl 0xDFFF).hl).isSome = true ∧
    ((ram []).set16 .hl 0xDFFF).Writable ((ram []).set16 .hl 0xDFFF).hl ∧
    ((ram []).set16 .hl 0xE000).busRead ((ram []).set16 .hl 0xE000).hl = none :=
  ⟨rfl,
    codedRuns_of rfl rfl rfl (fetched_two rfl (by decide)) (by decide),
    codedRuns_of rfl rfl rfl (fetched_two rfl (by decide)) (by decide),
    by decide,
    writable_work_ram _ (by decide),
    by decide⟩

/-! ### Control transfer and system -/

theorem test_witness_jumps :
    CodedRuns (.jp_a16 0xC150) [0xC3, 0x50, 0xC1] (ram [0xC3, 0x50, 0xC1]) ∧
    CodedRuns .jp_hl [0xE9] (ram [0xE9]) ∧
    CodedRuns (.jr_e8 0x80) [0x18, 0x80] (ram [0x18, 0x80]) :=
  ⟨codedRuns_of rfl rfl rfl (fetched_three rfl (by decide) (by decide)) (by decide),
    codedRuns_of rfl rfl rfl rfl (by decide),
    codedRuns_of rfl rfl rfl (fetched_two rfl (by decide)) (by decide)⟩

/-- Each condition on flags that meet it and on flags that do not. -/
theorem test_witness_conditions :
    ∀ cc : Cond, (∃ f, ((ram []).set8 .f f).Meets cc) ∧ ∃ f, ¬((ram []).set8 .f f).Meets cc := by
  intro cc
  cases cc
  · exact ⟨⟨0x00, show (((ram []).set8 .f 0x00).get8 .f).getLsbD 7 = false by decide⟩,
      0x90, show ¬(((ram []).set8 .f 0x90).get8 .f).getLsbD 7 = false by decide⟩
  · exact ⟨⟨0x90, show (((ram []).set8 .f 0x90).get8 .f).getLsbD 7 = true by decide⟩,
      0x00, show ¬(((ram []).set8 .f 0x00).get8 .f).getLsbD 7 = true by decide⟩
  · exact ⟨⟨0x00, show (((ram []).set8 .f 0x00).get8 .f).getLsbD 4 = false by decide⟩,
      0x90, show ¬(((ram []).set8 .f 0x90).get8 .f).getLsbD 4 = false by decide⟩
  · exact ⟨⟨0x90, show (((ram []).set8 .f 0x90).get8 .f).getLsbD 4 = true by decide⟩,
      0x00, show ¬(((ram []).set8 .f 0x00).get8 .f).getLsbD 4 = true by decide⟩

theorem test_witness_conditional_jumps :
    CodedRuns (.jp_z_a16 0x0200) [0xCA, 0x00, 0x02] (ram [0xCA, 0x00, 0x02]) ∧
    CodedRuns (.jr_z_e8 0xFB) [0x28, 0xFB] (ram [0x28, 0xFB]) ∧
    (∃ f, ((ram []).set8 .f f).Meets .z) ∧
    ∃ f, ¬((ram []).set8 .f f).Meets .z :=
  ⟨codedRuns_of rfl rfl rfl (fetched_three rfl (by decide) (by decide)) (by decide),
    codedRuns_of rfl rfl rfl (fetched_two rfl (by decide)) (by decide),
    (test_witness_conditions .z).1,
    (test_witness_conditions .z).2⟩

/-- The clauses of the push: `test_witness_push_form`. -/
theorem test_witness_calls :
    CodedRuns (.call_a16 0xC210) [0xCD, 0x10, 0xC2] (ram [0xCD, 0x10, 0xC2]) ∧
    CodedRuns (.call_z_a16 0xC210) [0xCC, 0x10, 0xC2] (ram [0xCC, 0x10, 0xC2]) ∧
    CodedRuns .rst_38 [0xFF] (ram [0xFF]) ∧
    (∃ f, ((ram []).set8 .f f).Meets .z) ∧
    ∃ f, ¬((ram []).set8 .f f).Meets .z :=
  ⟨codedRuns_of rfl rfl rfl (fetched_three rfl (by decide) (by decide)) (by decide),
    codedRuns_of rfl rfl rfl (fetched_three rfl (by decide) (by decide)) (by decide),
    codedRuns_of rfl rfl rfl rfl (by decide),
    (test_witness_conditions .z).1,
    (test_witness_conditions .z).2⟩

/-- The clauses of the pop: `test_witness_pop_form`. -/
theorem test_witness_returns :
    CodedRuns .ret [0xC9] ((ram [0xC9]).set16 .sp 0xC000) ∧
    CodedRuns .ret_z [0xC8] ((ram [0xC8]).set16 .sp 0xC000) ∧
    CodedRuns .reti [0xD9] ((ram [0xD9]).set16 .sp 0xC000) ∧
    (∃ f, ((ram []).set8 .f f).Meets .z) ∧
    ∃ f, ¬((ram []).set8 .f f).Meets .z :=
  ⟨codedRuns_of rfl rfl rfl rfl (by decide),
    codedRuns_of rfl rfl rfl rfl (by decide),
    codedRuns_of rfl rfl rfl rfl (by decide),
    (test_witness_conditions .z).1,
    (test_witness_conditions .z).2⟩

theorem test_witness_nop_and_di :
    CodedRuns .nop [0x00] (ram [0x00]) ∧
    CodedRuns .di [0xF3] (ram [0xF3]) :=
  ⟨codedRuns_of rfl rfl rfl rfl (by decide),
    codedRuns_of rfl rfl rfl rfl (by decide)⟩

/-- The four clauses about EI's delay: EI with IME = 0 and with IME = 1, and a pending EI before DI
and before another instruction. -/
theorem test_witness_ei_and_its_delay :
    CodedRuns .ei [0xFB] (ram [0xFB]) ∧
    (let s := ram [0xFB]
     s.Executes ∧ (∃ t, step s = .next t) ∧ s.eiPending = false ∧ s.ime = false ∧ s.ir = 0xFB) ∧
    (let s := { ram [0xFB] with ime := true }
     s.Executes ∧ (∃ t, step s = .next t) ∧ s.eiPending = false ∧ s.ime = true ∧ s.ir = 0xFB) ∧
    (let s := { ram [0xF3] with eiPending := true }
     s.Executes ∧ (∃ t, step s = .next t) ∧ s.eiPending = true ∧ s.ir = 0xF3) ∧
    let s := { ram [0x00] with eiPending := true }
    s.Executes ∧ (∃ t, step s = .next t) ∧ s.eiPending = true ∧ s.ir ≠ 0xF3 :=
  ⟨codedRuns_of rfl rfl rfl rfl (by decide),
    ⟨executes_of rfl rfl rfl, step_of_ends (cyc := 1) (by decide), rfl, rfl, rfl⟩,
    ⟨⟨rfl, by decide, by decide⟩, step_of_ends (cyc := 1) (by decide), rfl, rfl, rfl⟩,
    ⟨executes_of rfl rfl rfl, step_of_ends (cyc := 1) (by decide), rfl, rfl⟩,
    executes_of rfl rfl rfl, step_of_ends (cyc := 1) (by decide), rfl, by decide⟩

/-- HALT with nothing pending, with the HALT bug's condition, and with a line pending and IME set;
and a halted core with a line enabled but not requested, and with one pending. -/
theorem test_witness_halt_and_wake :
    CodedRuns .halt [0x76] (ram [0x76]) ∧
    (let s := ram [0x76]
     s.busRead 0xFFFF = some 0 ∧ s.busRead 0xFF0F = some 0 ∧
       ¬(s.ime = false ∧ (0 : Byte) &&& 0 &&& 0x1F ≠ 0)) ∧
    (let s := (ram [0x76]).placeByte 0xFFFF 0x11 |>.placeByte 0xFF0F 0x10
     s.busRead 0xFFFF = some 0x11 ∧ s.busRead 0xFF0F = some 0x10 ∧ s.ime = false ∧
       (0x11 : Byte) &&& 0x10 &&& 0x1F ≠ 0) ∧
    (let s := { (ram [0x76]).placeByte 0xFFFF 0x11 |>.placeByte 0xFF0F 0x10 with ime := true }
     ¬(s.ime = false ∧ (0x11 : Byte) &&& 0x10 &&& 0x1F ≠ 0)) ∧
    (let s := { (ram [0x3C]).placeByte 0xFFFF 0x01 |>.placeByte 0xFF0F 0x02 with halted := true }
     s.error = none ∧ s.halted = true ∧ s.hostPhase.busRead 0xFFFF = some 0x01 ∧
       s.hostPhase.busRead 0xFF0F = some 0x02 ∧ (0x01 : Byte) &&& 0x02 &&& 0x1F = 0) ∧
    let s := { (ram [0x3C]).placeByte 0xFFFF 0x02 |>.placeByte 0xFF0F 0x02 with halted := true }
    s.error = none ∧ s.halted = true ∧ s.hostPhase.busRead 0xFFFF = some 0x02 ∧
      s.hostPhase.busRead 0xFF0F = some 0x02 ∧ (0x02 : Byte) &&& 0x02 &&& 0x1F ≠ 0 :=
  ⟨codedRuns_of rfl rfl rfl rfl (by decide), ⟨by decide, by decide, by decide⟩,
    ⟨by decide, by decide, rfl, by decide⟩, by decide,
    ⟨rfl, rfl, by decide, by decide, by decide⟩, rfl, rfl, by decide, by decide, by decide⟩

/-- STOP before a byte that is not mapped, and an illegal byte. -/
theorem test_witness_stop_and_illegal_fail :
    (let s := holding 0xDFFF [0x10] romOnlyCore
     s.Executes ∧ s.ir = 0x10 ∧ s.busRead (s.pc + 1) = none) ∧
    let s := ram [0xD3]
    s.Executes ∧ s.ir = 0xD3 :=
  ⟨⟨executes_of rfl rfl rfl, rfl, by decide⟩, executes_of rfl rfl rfl, rfl⟩

/-- The prefix with its second byte not mapped, and with a register operand, the byte at HL and BIT
on it. -/
theorem test_witness_prefix_runs_secondary :
    (let s := holding 0xDFFF [0xCB] romOnlyCore
     s.busRead (s.pc + 1) = none) ∧
    (let s := ram [0xCB, 0xFF]
     s.busRead (s.pc + 1) = some 0xFF ∧ encode .set_7_a = [0xCB, 0xFF] ∧
       (0xFF : Byte).toNat % 8 ≠ 6) ∧
    (let s := (ram [0xCB, 0xFE]).set16 .hl 0xDFFF
     s.busRead (s.pc + 1) = some 0xFE ∧ s.busRead s.hl ≠ none ∧ s.Writable s.hl) ∧
    (0x46 : Byte).toNat / 64 = 1 ∧ (0x46 : Byte).toNat % 8 = 6 :=
  ⟨by decide, ⟨by decide, rfl, by decide⟩,
    ⟨by decide, by decide, writable_work_ram _ (by decide)⟩, by decide⟩

/-! ### The step and the invariants -/

/-- A row that runs on, one whose latch faults, and one that faults itself. -/
theorem test_witness_step_runs_decoded :
    (decode [0x48] = .ok (.ld_c_b, []) ∧ Instr.ld_c_b.wellFormed = true ∧
      CodedRuns .ld_c_b [0x48] (ram [0x48])) ∧
    (let s := holding 0xDFFF [0x48] romOnlyCore
     s.Executes ∧ s.awake.Fetched [0x48] ∧
       ∃ t, exec .ld_c_b s.awake = .next t ∧ t.busRead t.pc = none) ∧
    let s := ram [0xD3]
    s.Executes ∧ s.awake.Fetched [0xD3] ∧ decode [0xD3] = .ok (.illegal_d3, []) ∧
      Instr.illegal_d3.wellFormed = true ∧
      exec .illegal_d3 s.awake = .fault (.fatal (.illegalOpcodeError 0xD3 0xC100)) :=
  ⟨⟨by decide, by decide, codedRuns_of rfl rfl rfl rfl (by decide)⟩,
    test_witness_coded_faults.2.2, executes_of rfl rfl rfl, rfl, by decide, by decide, rfl⟩

/-- A core about to dispatch: IME set, and the enabled request bits `lines`. -/
def pendingCore (lines : Byte) (sp : Word) : State :=
  { ((ram [0x00]).placeByte 0xFFFF lines |>.placeByte 0xFF0F lines).set16 .sp sp with ime := true }

/-- Line 0 with line 2 pending too, line 4 alone, and the three clauses of the push. -/
theorem test_witness_interrupt_dispatch :
    ((pendingCore 0x05 0xE000).Dispatches ∧ (pendingCore 0x05 0xE000).awake.pend.getLsbD 0 = true ∧
      (∀ j, j < 0 → (pendingCore 0x05 0xE000).awake.pend.getLsbD j = false)) ∧
    ((pendingCore 0x10 0xE000).Dispatches ∧ (pendingCore 0x10 0xE000).awake.pend.getLsbD 4 = true ∧
      (∀ j, j < 4 → (pendingCore 0x10 0xE000).awake.pend.getLsbD j = false) ∧
      (pendingCore 0x10 0xE000).sp ≠ 0 ∧ (pendingCore 0x10 0xE000).sp ≠ 1 ∧
      (pendingCore 0x10 0xE000).awake.Writable (0xE000 - 1) ∧
      (pendingCore 0x10 0xE000).awake.Writable (0xE000 - 2) ∧
      (pendingCore 0x10 0xE000).InterruptInv) ∧
    ¬(pendingCore 0x10 0xE001).awake.Writable (0xE001 - 1) ∧
    (pendingCore 0x10 0xFE01).awake.Writable (0xFE01 - 1) ∧
    ¬(pendingCore 0x10 0xFE01).awake.Writable (0xFE01 - 2) :=
  ⟨⟨⟨rfl, rfl, by decide⟩, by decide, by decide⟩,
    ⟨⟨rfl, rfl, by decide⟩, by decide, by decide, by decide, by decide,
      writable_work_ram _ (by decide), writable_work_ram _ (by decide), by decide, by decide⟩,
    not_writable_echo _ (by decide), writable_oam _ (by decide), not_writable_echo _ (by decide)⟩

theorem test_witness_dispatch_push_to_ie :
    ((pendingCore 0x01 0x0000).Dispatches ∧ (pendingCore 0x01 0x0000).sp = 0) ∧
    ((pendingCore 0x01 0x0001).Dispatches ∧ (pendingCore 0x01 0x0001).sp = 1) ∧
    let s := ((ram []).set8 .f 0x80).set16 .sp 0
    s.sp = 0 ∧ s.Meets .z :=
  ⟨⟨⟨rfl, rfl, by decide⟩, rfl⟩, ⟨⟨rfl, rfl, by decide⟩, rfl⟩, rfl,
    show ((((ram []).set8 .f 0x80).set16 .sp 0).get8 .f).getLsbD 7 = true by decide⟩

/-- The step answers a next state with this IME. -/
def nextIme (v : Bool) (s : State) : Bool :=
  match step s with
  | .next t => t.ime == v
  | .fault _ => false
  | .refused _ => false

theorem step_of_nextIme {v : Bool} {s : State} (h : nextIme v s = true) :
    ∃ t, step s = .next t ∧ t.ime = v := by
  unfold nextIme at h
  split at h
  · rename_i t ht
    exact ⟨t, ht, by simpa using h⟩
  · cases h
  · cases h

/-- A dispatch and DI clear IME; RETI and a pending EI set it. -/
theorem test_witness_ime_writers :
    ((pendingCore 0x01 0xD000).ime = true ∧
      ∃ t, step (pendingCore 0x01 0xD000) = .next t ∧ t.ime = false) ∧
    (let s := { ram [0xF3] with ime := true }
     s.ime = true ∧ ∃ t, step s = .next t ∧ t.ime = false) ∧
    (let s := (ram [0xD9]).set16 .sp 0xD000
     s.ime = false ∧ ∃ t, step s = .next t ∧ t.ime = true) ∧
    let s := { ram [0x00] with eiPending := true }
    s.ime = false ∧ ∃ t, step s = .next t ∧ t.ime = true :=
  ⟨⟨rfl, step_of_nextIme (by decide)⟩, ⟨rfl, step_of_nextIme (by decide)⟩,
    ⟨rfl, step_of_nextIme (by decide)⟩, rfl, step_of_nextIme (by decide)⟩

/-! ### Runs -/

/-- A launched core has the writes its launch schedules (R8, R505). -/
theorem test_launched_core_has_the_host_writes :
    ∃ c, State.construct mbc1Launch = .ok c ∧ c.hostInput = [[], [.io 0x0F 0x04]] := by
  obtain ⟨c, hc⟩ : ∃ c, State.construct mbc1Launch = .ok c := by
    unfold State.construct
    rw [test_witness_constructed_core.1.1]
    exact ⟨_, rfl⟩
  exact ⟨c, hc, construct_hostInput hc⟩

/-- P5, step 7: the host requests line 2 at the boundary before the step, which wakes the core and
dispatches it, in 5 M-cycles. -/
theorem test_p5_host_request_wakes_and_dispatches :
    ends { (ram [0x18, 0xFE]).placeByte 0xFFFF 0x04 with
        ime := true, halted := true, hostInput := [[.io 0x0F 0x04]] } 5
      (fun t => t.pc == 0x0050 && t.busRead 0xFF0F == some 0x00 && t.get16 .sp == 0xFFFC &&
        t.busRead 0xFFFD == some 0xC1 && t.busRead 0xFFFC == some 0x00) = true := by decide

/-- R506 (b): the run of `NOP; JR -2` ends after one step, at the latched self-jump, whatever more
steps its Driver would call. -/
theorem test_run_ends_at_the_self_jump :
    let r := (ram [0x00, 0x18, 0xFE]).run 3
    r.ending = .marker ∧ r.steps = 1 ∧ r.cycles = 1 ∧ r.state.pc = 0xC101 := by decide

/-- R506 (a): the run of `NOP` before an illegal byte ends in its fault, with no final state. -/
theorem test_run_ends_in_a_fault :
    let r := (ram [0x00, 0xD3]).run 3
    r.ending = .fault (.fatal (.illegalOpcodeError 0xD3 0xC101)) ∧ r.final = none ∧ r.steps = 1 := by
  decide

/-- R506 (c) and R522: two NOPs by step count, and the sum of their M-cycles. -/
theorem test_run_ends_at_the_named_step :
    (((ram [0x00, 0x00]).run 2).ending = .stopped ∧ ((ram [0x00, 0x00]).run 2).state.pc = 0xC102) ∧
    totalCycles 2 (ram [0x00, 0x00]) = some 2 := by decide

/-- A halted core whose enabled line is not requested. -/
def waitingCore : State := { (ram [0x00]).placeByte 0xFFFF 0x04 with halted := true }

/-- R506: without a host write, a halted core with an enabled line hangs. -/
theorem test_waiting_core_hangs : waitingCore.Hangs := by
  refine hangsUnder_of_invariant
    (P := fun _ u => u = { waitingCore with cycles := u.cycles, hostInput := u.hostInput })
    (fun n => rfl) ?_ ?_
  · intro k u hu
    rw [hu]
    show waitingCore.endMarker = false
    decide
  · intro k u rest hu hi
    rw [hu, hi]
    refine ⟨{ waitingCore with cycles := Config.idleCycles, hostInput := rest }, ?_, rfl, rfl⟩
    show boundaryStep exec { waitingCore with cycles := u.cycles, hostInput := rest } = _
    exact if_pos ⟨rfl, show waitingCore.pend = 0 by decide⟩

/-- A loop that polls the I/O byte 0xFF00: `LDH A,(0x00); JR -4`, with A holding the byte read at the
last pass. -/
def pollingCore : State := { (ram [0xF0, 0x00, 0x18, 0xFC]).set8 .a 0x01 with cycles := 3 }

/-- The same loop at its JR, the byte 0x01 just read. -/
def pollingCoreAtJr : State :=
  { pollingCore.placeByte 0xFF00 0x01 with pc := 0xC102, ir := 0x18, cycles := 3 }

/-- The host keeps the loop going for ever: it sets the byte before each read and clears it after. -/
def pollingHost (k : Nat) : List HostWrite := [.io 0 (if k % 2 = 0 then 0x01 else 0x00)]

/-- R506, R114: a polling loop hangs whose host writes at infinitely many boundaries. -/
theorem test_polling_loop_hangs : pollingCore.HangsUnder pollingHost := by
  let stateAt (k : Nat) : State := if k % 2 = 0 then pollingCore else pollingCoreAtJr
  refine hangsUnder_of_invariant (P := fun k u => u = { stateAt k with hostInput := u.hostInput })
    (fun n => rfl) ?_ ?_
  · intro k u hu
    rw [hu]
    show (stateAt k).endMarker = false
    by_cases hk : k % 2 = 0
    · simp only [stateAt, if_pos hk]
      decide
    · simp only [stateAt, if_neg hk]
      decide
  · intro k u rest hu hi
    rw [hu, hi]
    refine ⟨{ stateAt (k + 1) with hostInput := rest }, ?_, rfl, rfl⟩
    by_cases hk : k % 2 = 0
    · have hk' : ¬(k + 1) % 2 = 0 := by omega
      simp only [stateAt, pollingHost, if_pos hk, if_neg hk']
      cbv
    · have hk' : (k + 1) % 2 = 0 := by omega
      simp only [stateAt, pollingHost, if_neg hk, if_pos hk']
      cbv

/-- Both outcomes of a step of a core with no error. -/
theorem test_witness_step_never_refused :
    ((ram [0x00]).error = none ∧ ∃ t, step (ram [0x00]) = .next t) ∧
    (ram [0xD3]).error = none ∧ StepFails (ram [0xD3]) (.illegalOpcodeError 0xD3 0xC100) :=
  ⟨⟨rfl, step_of_ends (cyc := 1) (by decide)⟩, rfl, rfl⟩

/-- A failing step, and a core with a recorded error. -/
theorem test_witness_error_is_terminal :
    StepFails (ram [0xD3]) (.illegalOpcodeError 0xD3 0xC100) ∧
    ((ram [0xD3]).recordError (.illegalOpcodeError 0xD3 0xC100)).error =
      some (.illegalOpcodeError 0xD3 0xC100) :=
  ⟨rfl, rfl⟩

/-- A step of a core that is not halted. -/
theorem test_witness_latched_byte :
    (∃ t, step (ram [0x00]) = .next t) ∧
    ¬((ram [0x00]).halted = true ∧ (ram [0x00]).hostPhase.pend = 0) :=
  ⟨step_of_ends (cyc := 1) (by decide), by decide⟩

/-- A construction with an image byte, and a step. -/
theorem test_witness_cartridge_fixed :
    (∃ c, State.construct mbc1Launch = .ok c) ∧ mbc1Launch.romImage[0x7FFF]? = some 0x3C ∧
    (∃ t, step (ram [0x00]) = .next t) ∧ romOnlyCore.bank = .romOnly ∧
    State.reset.bank ≠ .romOnly :=
  ⟨⟨_, test_launched_core_has_the_host_writes.choose_spec.1⟩,
    test_witness_constructed_core.1.2.2.1, step_of_ends (cyc := 1) (by decide), rfl, by decide⟩

/-- A constructed core, a step from a state that meets the invariant, and a halted one. -/
theorem test_witness_interrupt_inv_kept :
    (∃ c, State.construct mbc1Launch = .ok c) ∧
    ((ram [0xFB]).InterruptInv ∧ ∃ t, step (ram [0xFB]) = .next t) ∧
    { ram [0x00] with halted := true, ime := true }.InterruptInv :=
  ⟨test_witness_cartridge_fixed.1, ⟨⟨by decide, by decide⟩, step_of_ends (cyc := 1) (by decide)⟩,
    by decide, by decide⟩

/-- A store through HL to cartridge RAM from a state that meets the invariant: every part of it has
something to keep. -/
theorem test_witness_state_inv_kept :
    let s := { ({ cartCore 0x8000 with cartRam := [(0x6000, 0x11)], rom := [(0x4000, 0x01)] }.placeBytes
      0xC100 [0x36, 0x7F]).set16 .hl 0xA000 with pc := 0xC100, ir := 0x36 }
    s.Inv ∧ ∃ t, step s = .next t := by
  refine ⟨⟨rfl, ?_, ⟨by decide, by decide, by decide, by decide, by decide, by decide⟩, ?_⟩,
    step_of_ends (cyc := 3) (by decide)⟩
  · intro r h
    obtain rfl := BankController.mbc1.inj h.symm
    decide
  · exact .inr ⟨⟨_, rfl⟩, by decide, by decide⟩

theorem test_witness_invariants_at_construction : ∃ c, State.construct mbc1Launch = .ok c :=
  test_witness_cartridge_fixed.1

/-- A halted core with a line requested and none enabled. -/
theorem test_witness_halted_with_no_line_stays :
    let s := { (ram [0x00]).placeByte 0xFF0F 0x1F with halted := true }
    s.error = none ∧ s.halted = true ∧ s.ie &&& 0x1F = 0 :=
  ⟨rfl, rfl, by decide⟩

theorem test_witness_decode_of_encode :
    (Instr.ld_ma16_sp 0xC100).wellFormed = true ∧ encode (.ld_ma16_sp 0xC100) = [0x08, 0x00, 0xC1] :=
  ⟨by decide, by decide⟩

theorem test_witness_encode_of_decode :
    decode [0x08, 0x00, 0xC1, 0x76] = .ok (.ld_ma16_sp 0xC100, [0x76]) ∧
    Instr.ld_ma16_sp 0xC100 ≠ .stop :=
  ⟨by decide, by decide⟩

end Sys2Proof.Tests
end

section
/-! PROOFS. The state (10_state): the register file, what every step keeps of the registers, the
controller, the stores and the cartridge, the latched byte, and the error record. -/

namespace Sys2Proof.Machine

/-! ## What a whole step keeps -/

/-- A property that every instruction keeps, and also what a step does around one: the host's
writes, the waking, the acknowledge of an interrupt, the latch and the cycle output (R192). -/
structure KeptByStep (P : State → Prop) : Prop extends Kept P where
  host : ∀ {s}, P s → P s.hostPhase
  wake : ∀ {s}, P s → P { s with halted := false }
  acknowledged : ∀ {s} i, P s → P (s.acknowledged i)
  latched : ∀ {s} b, P s → P { s with ir := b }
  counted : ∀ {s} n, P s → P { s with cycles := n }

theorem KeptByStep.promoted {P : State → Prop} (hP : KeptByStep P) {s : State} (p : Bool)
    (h : P s) : P (s.promoted p) := by
  unfold State.promoted
  split
  · exact hP.reti h
  · exact h

theorem KeptByStep.dispatch {P : State → Prop} (hP : KeptByStep P) {s t : State} (hs : P s)
    (h : dispatch s = .next t) : P t := by
  obtain ⟨-, -, u, w, b, hu, hw, -, rfl⟩ := dispatch_next h
  have hpushed : P w := hP.write (hP.write hs hu) hw
  exact hP.latched b (hP.acknowledged _ (hP.set16 _ _ hpushed))

theorem KeptByStep.instructionStep {P : State → Prop} (hP : KeptByStep P) {s t : State} (hs : P s)
    (h : instructionStep exec s = .next t) : P t := by
  obtain ⟨b1, b2, u, b, hu, -, rfl⟩ := instructionStep_next h
  have hexec : P u := ensures_iff.1 (exec_keeps hP.toKept _ s hs) u hu
  exact hP.latched b (hP.promoted _ hexec)

/-- Every step, of each of its three kinds, keeps such a property (R191). -/
theorem KeptByStep.step {P : State → Prop} (hP : KeptByStep P) {s t : State} (hs : P s)
    (h : step s = .next t) : P t := by
  have hawake : P { s.hostPhase with halted := false } := hP.wake (hP.host hs)
  obtain ⟨-, ⟨-, -, rfl⟩ | ⟨-, -, hd⟩ | ⟨-, -, hi⟩⟩ := step_cases h
  · exact hP.counted _ (hP.host hs)
  · exact hP.dispatch hawake hd
  · exact hP.instructionStep hawake hi

/-! ## The stores -/

theorem hostWrites_within {p : Nat → Bool} {m : Memory} (ws : List HostWrite)
    (hp : ∀ w : HostWrite, p w.address = true) (h : m.within p = true) :
    (m.hostWrites ws).within p = true := by
  unfold Memory.hostWrites
  induction ws generalizing m with
  | nil => exact h
  | cons w ws ih => exact ih (Memory.write_within w.value h (hp w))

/-- A store built from writes inside a bound lists only addresses inside it. -/
theorem Memory.ofCells_within {p : Nat → Bool} (cells : List Host.Cell)
    (hp : ∀ c ∈ cells, p c.1 = true) : (Memory.ofCells cells).within p = true := by
  unfold Memory.ofCells
  suffices h : ∀ m : Memory, m.within p = true →
      (cells.foldl (fun m c => Memory.write m c.1 c.2) m).within p = true from h [] rfl
  induction cells with
  | nil => exact fun m h => h
  | cons c cells ih =>
    obtain ⟨hc, hcells⟩ := List.forall_mem_cons.1 hp
    exact fun m h => ih hcells _ (Memory.write_within c.2 h hc)

theorem Memory.ofBytes_upper (base : Nat) (bs : List Byte) :
    ∀ c ∈ Memory.ofBytes base bs, c.1 < base + bs.length := by
  induction bs generalizing base with
  | nil => simp [Memory.ofBytes]
  | cons v vs ih =>
    have htail : ∀ c ∈ Memory.ofBytes (base + 1) vs, c.1 < base + (v :: vs).length := by
      rw [List.length_cons, ← Nat.add_assoc, Nat.add_right_comm]
      exact ih (base + 1)
    unfold Memory.ofBytes
    split
    · exact htail
    · exact List.forall_mem_cons.2 ⟨by simp, htail⟩

/-! ## The bus and the invariants -/

/-- The address ranges of the plain-storage regions (R91, R106). -/
theorem isStorage_regionOf_iff (a : Word) :
    (regionOf a).isStorage = true ↔
      (0x8000 ≤ a.toNat ∧ a.toNat < 0xA000) ∨ (0xC000 ≤ a.toNat ∧ a.toNat < 0xE000) ∨
      (0xFE00 ≤ a.toNat ∧ a.toNat < 0xFEA0) ∨ 0xFF00 ≤ a.toNat := by
  unfold regionOf
  split_ifs <;> simp only [Region.isStorage, Bool.false_eq_true, false_iff, true_iff] <;> omega

theorem storageAddress_toNat {a : Word} (h : (regionOf a).isStorage = true) :
    storageAddress a.toNat = true := by
  simp [storageAddress, h, a.isLt]

/-- The host can name only storage addresses (R114). -/
theorem storageAddress_hostWrite (w : HostWrite) : storageAddress w.address = true := by
  have hw := hostWrite_address w
  have ha : (BitVec.ofNat 16 w.address).toNat = w.address := by
    rw [BitVec.toNat_ofNat]
    omega
  rw [← ha]
  apply storageAddress_toNat
  rw [isStorage_regionOf_iff, ha]
  omega

/-- A control write leaves BANK1 at least 1: a zero is taken as 1 (R101). -/
theorem Mbc1.control_bank1_ne_zero {r : Mbc1} (a : Word) (v : Byte) (h : r.bank1 ≠ 0) :
    (r.control a v).bank1 ≠ 0 := by
  unfold Mbc1.control
  split
  · exact h
  · split
    · dsimp only
      split
      · decide
      · assumption
    · split <;> exact h

/-- In a legal cartridge an accessible RAM byte lies inside the declared RAM (R105, R120). -/
theorem cartRamIndex_lt {s : State} (hc : s.CartridgeLegal) {a : Word} {i : Nat}
    (h : s.cartRamIndex a = some i) : i < s.ramSize := by
  unfold State.cartRamIndex at h
  rcases hc with ⟨hb, -, -⟩ | ⟨⟨r, hb⟩, -, hsize⟩
  · simp [hb] at h
  · simp only [hb] at h
    split at h
    · rename_i hacc
      obtain ⟨hpos, -, hoff⟩ := hacc
      have hi := Option.some.inj h
      have hbank : ∀ n, (if r.mode then r.bank2.toNat &&& n else 0) ≤ n := by
        intro n
        split
        · exact Nat.and_le_right
        · exact Nat.zero_le n
      have hbank := hbank (max 1 (s.ramSize / Config.ramBankSize) - 1)
      simp only [List.mem_cons, List.not_mem_nil, or_false] at hsize
      simp only [Config.ramBankSize] at hi hbank hoff
      rcases hsize with hz | hz | hz | hz <;> rw [hz] at hi hbank hoff hpos ⊢ <;> omega
    · cases h

/-- The invariants speak of AF, the controller, the stores and the cartridge alone: whatever the
other fields hold, they stay. -/
theorem State.Inv.otherFields {s : State} (h : s.Inv) {bc de hl sp pc : Word} {ir : Byte}
    {ime eiPending halted : Bool} {error : Option FatalError}
    {hostInput : List (List HostWrite)} {cycles : Nat} :
    State.Inv { s with
      bc := bc, de := de, hl := hl, sp := sp, pc := pc, ir := ir, ime := ime,
      eiPending := eiPending, halted := halted, error := error, hostInput := hostInput,
      cycles := cycles } := by
  obtain ⟨hflags, hbank1, ⟨hmem, hmemIn, hcart, hcartIn, hrom, hromIn⟩, hcartridge⟩ := h
  exact ⟨hflags, hbank1, ⟨hmem, hmemIn, hcart, hcartIn, hrom, hromIn⟩, hcartridge⟩

theorem State.Inv.withMem {s : State} (h : s.Inv) {m : Memory} (hwf : m.wf = true)
    (hwithin : m.within storageAddress = true) : State.Inv { s with mem := m } :=
  { flags := h.flags, bank1 := h.bank1, cartridge := h.cartridge,
    memory := { h.memory with memWf := hwf, memWithin := hwithin } }

theorem State.Inv.memWrite {s : State} (h : s.Inv) {a : Nat} (v : Byte)
    (ha : storageAddress a = true) : State.Inv { s with mem := s.mem.write a v } :=
  h.withMem (Memory.write_wf a v h.memory.memWf) (Memory.write_within v h.memory.memWithin ha)

theorem State.Inv.cartRamWrite {s : State} (h : s.Inv) {i : Nat} (v : Byte) (hi : i < s.ramSize) :
    State.Inv { s with cartRam := s.cartRam.write i v } :=
  { flags := h.flags, bank1 := h.bank1, cartridge := h.cartridge,
    memory := { h.memory with
      cartWf := Memory.write_wf i v h.memory.cartWf
      cartWithin := Memory.write_within v h.memory.cartWithin (decide_eq_true hi) } }

theorem State.Inv.controlWrite {s : State} (h : s.Inv) {r : Mbc1} (hb : s.bank = .mbc1 r)
    (a : Word) (v : Byte) : State.Inv { s with bank := .mbc1 (r.control a v) } where
  flags := h.flags
  bank1 := by
    rintro _ ⟨⟩
    exact Mbc1.control_bank1_ne_zero a v (h.bank1 r hb)
  memory := { h.memory with }
  cartridge := by
    rcases h.cartridge with ⟨hrom, -, -⟩ | ⟨-, hcounts⟩
    · cases hrom.symm.trans hb
    · exact .inr ⟨⟨_, rfl⟩, hcounts⟩

/-- A register write keeps the invariants: a write to AF is masked (R45). -/
theorem State.Inv.set16 {s : State} (h : s.Inv) (r : Reg16) (v : Word) : (s.set16 r v).Inv := by
  cases r
  case af =>
    have hnibble : v &&& 0xFFF0 &&& 0x000F = 0 := by simp [BitVec.and_assoc]
    exact { h with flags := hnibble, memory := { h.memory with } }
  all_goals exact h.otherFields

/-- An accepted bus write keeps the invariants, in each of the three things it can be (R93). -/
theorem State.Inv.busWrite {s t : State} {a : Word} {v : Byte} (h : s.Inv)
    (hw : s.busWrite a v = some t) : t.Inv := by
  obtain ⟨-, r, hb, rfl⟩ | ⟨-, i, hi, rfl⟩ | ⟨hstore, rfl⟩ := busWrite_cases hw
  · exact h.controlWrite hb a v
  · exact h.cartRamWrite v (cartRamIndex_lt h.cartridge hi)
  · exact h.memWrite v (storageAddress_toNat hstore)

theorem State.Inv.hostPhase {s : State} (h : s.Inv) : s.hostPhase.Inv :=
  (h.withMem (hostWrites_wf _ h.memory.memWf)
    (hostWrites_within _ storageAddress_hostWrite h.memory.memWithin)).otherFields

theorem State.Inv.acknowledged {s : State} (h : s.Inv) (i : Nat) : (s.acknowledged i).Inv :=
  (h.memWrite _ (by decide)).otherFields

/-- Every update a step is made of keeps the invariants. -/
theorem inv_keptByStep : KeptByStep State.Inv where
  set16 r v h := h.set16 r v
  write h hw := h.busWrite hw
  retired _ _ h := h.otherFields
  jumped _ _ h := h.otherFields
  di h := h.otherFields
  ei _ h := h.otherFields
  reti h := h.otherFields
  halt h := h.otherFields
  host h := h.hostPhase
  wake h := h.otherFields
  acknowledged i h := h.acknowledged i
  latched _ h := h.otherFields
  counted _ h := h.otherFields

/-- Settles O55: each update a step is made of keeps the invariants, and so the step does. -/
theorem stateInvKept : Obligations.StateInvKept :=
  fun _ _ hs h => inv_keptByStep.step hs h

/-! ## The registers -/

theorem get8_eq_extractLsb' (s : State) (q : Reg8) :
    s.get8 q = (s.get16 q.pair).extractLsb' (if q.isHigh then 8 else 0) 8 := by
  unfold State.get8
  split <;> rfl

/-- Settles O4, the bytes of the pairs by definition and the flag bits by evaluation. -/
theorem registerLayout : Obligations.RegisterLayout := by
  unfold Obligations.RegisterLayout
  refine ⟨fun s => ⟨rfl, rfl, rfl, rfl, rfl, rfl, rfl, rfl, flags_low_nibble s⟩, ?_⟩
  decide

theorem set16_sameControl (s : State) (r : Reg16) (v : Word) : SameControl s (s.set16 r v) := by
  constructor <;> simp

theorem set16_sameMemory (s : State) (r : Reg16) (v : Word) : SameMemory s (s.set16 r v) := by
  constructor <;> simp

/-- A 16-bit register write changes that register alone (R43). -/
theorem set16_onlyWords (s : State) (r : Reg16) (v : Word) : OnlyWords [r] s (s.set16 r v) where
  words _ hq := set16_get16_other s v (by simpa using hq)
  control := set16_sameControl s r v
  memory := set16_sameMemory s r v

/-- An 8-bit register write is a write of its pair (R42). -/
theorem set8_eq_set16 (s : State) (q : Reg8) (v : Byte) :
    ∃ w, s.set8 q v = s.set16 q.pair w := by
  unfold State.set8
  split <;> exact ⟨_, rfl⟩

theorem set8_onlyWords (s : State) (q : Reg8) (v : Byte) : OnlyWords [q.pair] s (s.set8 q v) := by
  obtain ⟨w, hw⟩ := set8_eq_set16 s q v
  rw [hw]
  exact set16_onlyWords s q.pair w

/-- The mask of a write to AF reaches only the low byte (R45). -/
theorem mkWord_and_mask (h l : Byte) : mkWord h l &&& 0xFFF0#16 = mkWord h (l &&& 0xF0#8) := by
  rw [← mkWord_hiByte_loByte (mkWord h l &&& 0xFFF0#16)]
  simp

theorem loByte_get16_af (s : State) :
    loByte (s.get16 .af) &&& 0xF0#8 = loByte (s.get16 .af) := by
  simp [State.get16, BitVec.and_assoc]

/-- A write of a high byte leaves the low byte of its pair (R42). -/
theorem get16_set8_high (s : State) {q : Reg8} (v : Byte) (hq : q.isHigh = true) :
    (s.set8 q v).get16 q.pair = mkWord v (loByte (s.get16 q.pair)) := by
  rw [State.set8, if_pos hq, set16_get16]
  split
  · rename_i haf
    rw [haf]
    exact (mkWord_and_mask _ _).trans (congrArg (mkWord v) (loByte_get16_af s))
  · rfl

/-- A write of a low byte leaves the high byte of its pair (R42); F takes no low nibble (R45). -/
theorem get16_set8_low (s : State) {q : Reg8} (v : Byte) (hq : q.isHigh = false) :
    (s.set8 q v).get16 q.pair =
      mkWord (hiByte (s.get16 q.pair)) (if q.pair = .af then v &&& 0xF0#8 else v) := by
  rw [State.set8, if_neg (by simp [hq]), set16_get16]
  split
  · exact mkWord_and_mask _ _
  · rfl

/-- Settles O5: the equation of a read, the two of an 8-bit write by the half it writes, and that of
a 16-bit write, each with its frame. -/
theorem registerWrites : Obligations.RegisterWrites := by
  unfold Obligations.RegisterWrites
  refine ⟨fun s q => ?_, fun s v => ?_, fun s q v => ⟨set16_get16 s q v, set16_onlyWords s q v⟩⟩
  · cases q <;> exact get8_eq_extractLsb' s _
  · exact ⟨get16_set8_high s v (q := .a) rfl, get16_set8_low s v (q := .f) rfl,
      get16_set8_high s v (q := .b) rfl, get16_set8_low s v (q := .c) rfl,
      get16_set8_high s v (q := .d) rfl, get16_set8_low s v (q := .e) rfl,
      get16_set8_high s v (q := .h) rfl, get16_set8_low s v (q := .l) rfl,
      fun q => set8_onlyWords s q v⟩

/-! ## The latched byte and the error record -/

theorem dispatch_latches {s t : State} (h : dispatch s = .next t) : t.busRead t.pc = some t.ir := by
  obtain ⟨-, -, u, w, b, -, -, hb, rfl⟩ := dispatch_next h
  exact hb

theorem instructionStep_latches {s t : State} (h : instructionStep exec s = .next t) :
    t.busRead t.pc = some t.ir := by
  obtain ⟨b1, b2, u, b, -, hb, rfl⟩ := instructionStep_next h
  calc (u.promoted s.eiPending).busRead (u.promoted s.eiPending).pc
      = u.busRead u.pc := by rw [busRead_promoted, promoted_pc]
    _ = some b := hb

/-- Settles O52: a step that is not idle is a dispatch or an instruction step, and each ends with
the latch (R198). -/
theorem latchedByte : Obligations.LatchedByte := by
  unfold Obligations.LatchedByte
  intro s t h hidle
  obtain ⟨-, ⟨hhalted, hpend, -⟩ | ⟨-, -, hd⟩ | ⟨-, -, hi⟩⟩ := step_cases h
  · exact absurd ⟨hhalted, hpend⟩ hidle
  · exact dispatch_latches hd
  · exact instructionStep_latches hi

theorem step_of_error {s : State} {e : FatalError} (h : s.error = some e) :
    step s = .fault (.terminal e) := by
  simp [step, stepWith, h]

theorem settled_of_stepFails {s : State} {e : FatalError} (h : StepFails s e) :
    settled s = s.hostPhase.recordError e := by
  unfold StepFails at h
  rw [settled, h]

/-- Settles O51: a failing step settles in the state it began in with the record (R455), and a
recorded error leaves no step (R54). -/
theorem errorIsTerminal : Obligations.ErrorIsTerminal := by
  unfold Obligations.ErrorIsTerminal
  intro s e
  refine ⟨settled_of_stepFails, fun herr => ?_⟩
  have hstep := step_of_error herr
  exact ⟨hstep, by rw [settled, hstep]⟩

/-! ## The cartridge -/

/-- The cartridge of `t` is that of `s`: the image, its declared sizes and the controller's tag
(R8, R65). -/
def SameCartridge (s t : State) : Prop :=
  t.rom = s.rom ∧ t.romBankCount = s.romBankCount ∧ t.ramSize = s.ramSize ∧
    (s.bank = .romOnly ↔ t.bank = .romOnly)

/-- An accepted write leaves the image, the declared sizes and the controller's tag (R65). -/
theorem SameCartridge.busWrite {s t u : State} {a : Word} {v : Byte} (h : SameCartridge s t)
    (hw : t.busWrite a v = some u) : SameCartridge s u := by
  obtain ⟨-, r, hb, rfl⟩ | ⟨-, i, -, rfl⟩ | ⟨-, rfl⟩ := busWrite_cases hw
  · obtain ⟨hrom, hcount, hsize, htag⟩ := h
    exact ⟨hrom, hcount, hsize, by simpa [hb] using htag⟩
  · exact h
  · exact h

theorem sameCartridge_keptByStep (s : State) : KeptByStep (SameCartridge s) where
  set16 r v h := by simpa [SameCartridge] using h
  write h hw := h.busWrite hw
  retired _ _ h := h
  jumped _ _ h := h
  di h := h
  ei _ h := h
  reti h := h
  halt h := h
  host h := h
  wake h := h
  acknowledged _ h := h
  latched _ h := h
  counted _ h := h

/-- The image of a constructed core reads as the launch gave it (R65). -/
theorem construct_rom_read {p : Launch} {c : State} (h : State.construct p = .ok c) {k : Nat}
    {v : Byte} (hv : p.romImage[k]? = some v) : c.rom.read k = v := by
  rw [(construct_ok h).2]
  show (Memory.ofBytes 0 p.romImage).read k = v
  simpa [hv] using Memory.read_ofBytes 0 p.romImage k

/-- Settles O53: every update a step is made of keeps the cartridge, so every step and, by induction
on its bound, every run does. -/
theorem cartridgeFixed : Obligations.CartridgeFixed := by
  unfold Obligations.CartridgeFixed
  have hrefl : ∀ s, SameCartridge s s := fun s => ⟨rfl, rfl, rfl, Iff.rfl⟩
  refine ⟨fun p c h k v hv => construct_rom_read h hv, fun s t h => ?_, fun s n => ?_⟩
  · exact (sameCartridge_keptByStep s).step (hrefl s) h
  · exact run_keeps (fun _ _ hs h => (sameCartridge_keptByStep s).step hs h) n (hrefl s)

/-! ## The invariants at construction -/

theorem State.interruptInv_of_quiet {s : State} (he : s.eiPending = false)
    (hh : s.halted = false) : s.InterruptInv := by
  simp [State.InterruptInv, he, hh]

theorem reset_flagNibbleZero : State.reset.FlagNibbleZero := rfl

theorem powerOn_bank1 (tag : ControllerTag) {r : Mbc1} (h : tag.powerOn = .mbc1 r) :
    r.bank1 ≠ 0 := by
  cases tag with
  | mbc1 =>
    obtain rfl := BankController.mbc1.inj h
    decide
  | romOnly => cases h
  | other n => cases h

/-- A launch that passes the header checks passes each of the three (R120, R451). -/
theorem check_none {p : Launch} (h : p.check = none) :
    p.bankCountOk = true ∧ p.ramSizeOk = true ∧
      p.romImage.length = p.romBankCount * Config.bankSize := by
  unfold Launch.check at h
  split at h
  · cases h
  all_goals
    split_ifs at h with hcount hsize hlen
    exact ⟨Bool.not_eq_false _ ▸ hcount, Bool.not_eq_false _ ▸ hsize, not_not.1 hlen⟩

theorem unlatched_memoryInv {p : Launch}
    (h : p.romImage.length = p.romBankCount * Config.bankSize) : p.unlatched.MemoryInv where
  memWf := Memory.ofCells_wf _
  memWithin := Memory.ofCells_within _ fun _ hc => (List.mem_filter.1 hc).2
  cartWf := Memory.ofCells_wf _
  cartWithin := Memory.ofCells_within _ fun _ hc => (List.mem_filter.1 hc).2
  romWf := Memory.ofBytes_wf 0 _
  romWithin := List.all_eq_true.2 fun c hc => by
    have hlt := Memory.ofBytes_upper 0 p.romImage c hc
    rw [Nat.zero_add, h] at hlt
    exact decide_eq_true hlt

theorem unlatched_cartridgeLegal {p : Launch} (h : p.check = none) :
    p.unlatched.CartridgeLegal := by
  obtain ⟨hcount, hsize, -⟩ := check_none h
  cases hc : p.controller <;>
    simp only [Launch.bankCountOk, Launch.ramSizeOk, hc, decide_eq_true_eq] at hcount hsize
  case romOnly => exact .inl ⟨congrArg ControllerTag.powerOn hc, hcount, hsize⟩
  case mbc1 => exact .inr ⟨⟨Mbc1.powerOn, congrArg ControllerTag.powerOn hc⟩, hcount, hsize⟩
  case other => cases hcount

theorem unlatched_inv {p : Launch} (h : p.check = none) : p.unlatched.Inv where
  flags := reset_flagNibbleZero
  bank1 _ hr := powerOn_bank1 p.controller hr
  memory := unlatched_memoryInv (check_none h).2.2
  cartridge := unlatched_cartridgeLegal h

theorem reset_inv : State.reset.Inv where
  flags := reset_flagNibbleZero
  bank1 _ hr := powerOn_bank1 .mbc1 hr
  memory := by constructor <;> rfl
  cartridge := .inr ⟨⟨_, rfl⟩, by decide, by decide⟩

/-- Settles O56: the reset state by its fields, a constructed core by the checks its launch
passed. -/
theorem invariantsAtConstruction : Obligations.InvariantsAtConstruction := by
  unfold Obligations.InvariantsAtConstruction
  refine ⟨State.interruptInv_of_quiet rfl rfl, reset_inv, fun p c h => ?_⟩
  obtain ⟨hcheck, hc⟩ := construct_ok h
  rw [hc]
  exact ⟨State.interruptInv_of_quiet rfl rfl, (unlatched_inv hcheck).otherFields⟩

end Sys2Proof.Machine
end

section
/-! PROOFS. The address space and the bank controller (20_memory), with the header checks of
construction (R120): what each region answers, the control writes of the controller, the two
windows it moves, and what one accepted write stores. -/

namespace Sys2Proof.Machine

/-! ## The header checks of construction -/

/-- The bank counts and RAM sizes the header checks allow a supported controller tag (R120). -/
def ControllerTag.Allows (tag : ControllerTag) (counts rams : List Nat) : Prop :=
  (tag = .romOnly ∧ counts = [2] ∧ rams = [0]) ∨
    (tag = .mbc1 ∧ counts = [2, 4, 8, 16, 32] ∧ rams = [0, 0x800, 0x2000, 0x8000])

/-- The checks of a supported tag, by the lists of what it allows (R120, R451). -/
theorem check_of_allows {p : Launch} {counts rams : List Nat}
    (h : p.controller.Allows counts rams) :
    p.check =
      if p.romBankCount ∉ counts then some .badBankCount
      else if p.ramSize ∉ rams then some .badRamSize
      else if p.romImage.length ≠ p.romBankCount * Config.bankSize then some .imageLengthMismatch
      else none := by
  obtain ⟨hc, rfl, rfl⟩ | ⟨hc, rfl, rfl⟩ := h <;>
    simp only [Launch.check, Launch.bankCountOk, Launch.ramSizeOk, hc, decide_eq_false_iff_not,
      List.mem_singleton]

theorem construct_of_check_some {p : Launch} {r : ConfigReason} (h : p.check = some r) :
    State.construct p = .error (.configurationError r) := by
  simp only [State.construct, h]

theorem exists_construct_of_check_none {p : Launch} (h : p.check = none) :
    ∃ c, State.construct p = .ok c := by
  simp only [State.construct, h]
  exact ⟨_, rfl⟩

/-- Settles O2: the first check that fails is the answer of `Launch.check`, and construction raises
it. -/
theorem constructionErrors : Obligations.ConstructionErrors := by
  unfold Obligations.ConstructionErrors
  refine fun p => ⟨fun n hc => construct_of_check_some (by simp only [Launch.check, hc]),
    fun counts rams h => ?_⟩
  have hcheck := check_of_allows h
  refine ⟨fun hcount => construct_of_check_some ?_,
    fun hcount hsize => construct_of_check_some ?_,
    fun hcount hsize hlen => construct_of_check_some ?_,
    fun hcount hsize hlen => exists_construct_of_check_none ?_⟩
  · rw [hcheck, if_pos hcount]
  · rw [hcheck, if_neg (not_not.2 hcount), if_pos hsize]
  · rw [hcheck, if_neg (not_not.2 hcount), if_neg (not_not.2 hsize)]
    exact if_pos hlen
  · rw [hcheck, if_neg (not_not.2 hcount), if_neg (not_not.2 hsize)]
    exact if_neg (not_not.2 hlen)

/-! ## The regions -/

theorem regionOf_eq_romFixed_iff (a : Word) : regionOf a = .romFixed ↔ a.toNat < 0x4000 := by
  unfold regionOf
  split_ifs <;> simp only [false_iff, true_iff] <;> omega

theorem regionOf_eq_romSwitch_iff (a : Word) :
    regionOf a = .romSwitch ↔ 0x4000 ≤ a.toNat ∧ a.toNat < 0x8000 := by
  unfold regionOf
  split_ifs <;> simp only [false_iff, true_iff] <;> omega

theorem regionOf_eq_cartRam_iff (a : Word) :
    regionOf a = .cartRam ↔ 0xA000 ≤ a.toNat ∧ a.toNat < 0xC000 := by
  unfold regionOf
  split_ifs <;> simp only [false_iff, true_iff] <;> omega

/-- The two ranges that are not recognized (R107). -/
theorem regionOf_unrecognized_iff (a : Word) :
    (regionOf a = .echo ∨ regionOf a = .unusable) ↔
      (0xE000 ≤ a.toNat ∧ a.toNat < 0xFE00) ∨ (0xFEA0 ≤ a.toNat ∧ a.toNat < 0xFF00) := by
  unfold regionOf
  split_ifs <;> simp only [or_self, or_true, true_or, false_iff, true_iff] <;> omega

/-- The four ways an address is routed: a control region, cartridge RAM, plain storage, or nothing
(R91). -/
theorem regionOf_cases (a : Word) :
    a.toNat < 0x8000 ∨ regionOf a = .cartRam ∨ (regionOf a).isStorage = true ∨
      (regionOf a = .echo ∨ regionOf a = .unusable) := by
  rw [regionOf_eq_cartRam_iff, isStorage_regionOf_iff, regionOf_unrecognized_iff]
  omega

/-! ## What an access of each region is -/

theorem busRead_romFixed (s : State) {a : Word} (h : a.toNat < 0x4000) :
    s.busRead a = some (s.rom.read a.toNat) := by
  unfold State.busRead
  rw [(regionOf_eq_romFixed_iff a).2 h]

theorem busRead_romSwitch (s : State) {a : Word} (h : 0x4000 ≤ a.toNat ∧ a.toNat < 0x8000) :
    s.busRead a = some (s.rom.read (s.romSwitchOffset a)) := by
  unfold State.busRead
  rw [(regionOf_eq_romSwitch_iff a).2 h]

theorem busRead_cartRam (s : State) {a : Word} (h : regionOf a = .cartRam) :
    s.busRead a = (s.cartRamIndex a).map s.cartRam.read := by
  unfold State.busRead
  rw [h]

theorem busRead_unrecognized (s : State) {a : Word}
    (h : regionOf a = .echo ∨ regionOf a = .unusable) : s.busRead a = none := by
  unfold State.busRead
  rcases h with h | h <;> rw [h]

theorem busWrite_control (s : State) {a : Word} (v : Byte) (h : a.toNat < 0x8000) :
    s.busWrite a v = s.controlWrite a v := by
  unfold State.busWrite
  rcases Nat.lt_or_ge a.toNat 0x4000 with hlow | hhigh
  · rw [(regionOf_eq_romFixed_iff a).2 hlow]
  · rw [(regionOf_eq_romSwitch_iff a).2 ⟨hhigh, h⟩]

theorem busWrite_cartRam (s : State) {a : Word} (v : Byte) (h : regionOf a = .cartRam) :
    s.busWrite a v =
      (s.cartRamIndex a).map fun i => { s with cartRam := s.cartRam.write i v } := by
  unfold State.busWrite
  rw [h]

theorem busWrite_storage (s : State) {a : Word} (v : Byte) (h : (regionOf a).isStorage = true) :
    s.busWrite a v = some { s with mem := s.mem.write a.toNat v } := by
  unfold State.busWrite
  cases hr : regionOf a <;> simp [hr, Region.isStorage] at h ⊢

theorem busWrite_unrecognized (s : State) {a : Word} (v : Byte)
    (h : regionOf a = .echo ∨ regionOf a = .unusable) : s.busWrite a v = none := by
  unfold State.busWrite
  rcases h with h | h <;> rw [h]

/-- An address with no byte to read or write faults whatever would have followed (R94). -/
theorem State.NoAccess.of_none {s : State} {a : Word} (hr : s.busRead a = none)
    (hw : ∀ v, s.busWrite a v = none) : s.NoAccess a where
  reads := hr
  writes := hw
  readFault _ _ := readByte_of_none hr
  writeFault v _ := storeByte_of_none (hw v)

/-! ## The switchable ROM window -/

theorem effRomBank_mbc1 {s : State} {r : Mbc1} (h : s.bank = .mbc1 r) :
    s.effRomBank = (r.bank2.toNat * 32 + r.bank1.toNat) &&& (s.romBankCount - 1) := by
  simp only [State.effRomBank, h]

/-- RomOnly shows its second bank, at the image offset that is the address (R96). -/
theorem romSwitchOffset_romOnly {s : State} (a : Word) (h : s.bank = .romOnly) :
    s.romSwitchOffset a = 0x4000 + (a.toNat - 0x4000) := by
  have heff : s.effRomBank = 1 := by simp only [State.effRomBank, h]
  unfold State.romSwitchOffset Config.bankSize
  rw [heff, Nat.one_mul]

theorem romSwitchOffset_mbc1 {s : State} {r : Mbc1} (a : Word) (h : s.bank = .mbc1 r) :
    s.romSwitchOffset a =
      ((r.bank2.toNat * 32 + r.bank1.toNat) &&& (s.romBankCount - 1)) * 0x4000 +
        (a.toNat - 0x4000) := by
  unfold State.romSwitchOffset Config.bankSize
  rw [effRomBank_mbc1 h]

/-- Settles O6: each range is one region, or one of several, and each region answers by its
equation. -/
theorem busReadRouting : Obligations.BusReadRouting := by
  unfold Obligations.BusReadRouting
  intro s a
  refine ⟨busRead_romFixed s, fun hlo hhi => ⟨fun hb => ?_, fun r hb => ?_⟩, fun h => ?_,
    fun h => ?_⟩
  · rw [busRead_romSwitch s ⟨hlo, hhi⟩, romSwitchOffset_romOnly a hb]
  · rw [busRead_romSwitch s ⟨hlo, hhi⟩, romSwitchOffset_mbc1 a hb]
  · exact busRead_storage s ((isStorage_regionOf_iff a).2 h)
  · have hregion := (regionOf_unrecognized_iff a).2 h
    exact .of_none (busRead_unrecognized s hregion) fun v => busWrite_unrecognized s v hregion

/-- An allowed MBC1 bank count is a power of two that divides 32 (R120). -/
theorem bankCount_eq_two_pow {n : Nat} (h : n ∈ [2, 4, 8, 16, 32]) :
    ∃ k, n = 2 ^ k ∧ 2 ^ k ∣ 32 := by
  simp only [List.mem_cons, List.not_mem_nil, or_false] at h
  rcases h with rfl | rfl | rfl | rfl | rfl
  exacts [⟨1, by decide⟩, ⟨2, by decide⟩, ⟨3, by decide⟩, ⟨4, by decide⟩, ⟨5, by decide⟩]

/-- Settles O7: a mask by a power of two less one is a remainder, and BANK2 * 32 leaves none. -/
theorem effectiveBankMasked : Obligations.EffectiveBankMasked := by
  unfold Obligations.EffectiveBankMasked
  intro s r hb hcount
  obtain ⟨k, hk, hdvd⟩ := bankCount_eq_two_pow hcount
  have heff : s.effRomBank = (r.bank2.toNat * 32 + r.bank1.toNat) % 2 ^ k := by
    rw [effRomBank_mbc1 hb, hk, Nat.and_two_pow_sub_one_eq_mod]
  have hbank1 : s.effRomBank = r.bank1.toNat % 2 ^ k := by
    rw [heff, Nat.add_mod, Nat.mod_eq_zero_of_dvd (hdvd.mul_left _), Nat.zero_add, Nat.mod_mod]
  rw [hk]
  refine ⟨heff, ?_, ?_, ?_⟩
  · rw [hbank1, Nat.and_two_pow_sub_one_eq_mod]
  · rw [heff]
    exact Nat.mod_lt _ (Nat.two_pow_pos k)
  · rw [hbank1, Nat.dvd_iff_mod_eq_zero]

/-! ## Cartridge RAM -/

/-- The byte R105 names is the one the model computes. -/
theorem cartRamByte_iff (s : State) (a : Word) (i : Nat) :
    s.CartRamByte a i ↔ s.cartRamIndex a = some i := by
  unfold State.CartRamByte State.cartRamIndex
  cases hb : s.bank with
  | romOnly => simp
  | mbc1 r =>
    simp only [BankController.mbc1.injEq, exists_eq_left', Option.ite_none_right_eq_some,
      Option.some.injEq]
    simp only [Config.ramBankSize]
    constructor
    · rintro ⟨hen, hsize, hoff, hi⟩
      exact ⟨⟨hsize, hen, hoff⟩, hi.symm⟩
    · rintro ⟨⟨hsize, hen, hoff⟩, hi⟩
      exact ⟨hen, hsize, hoff, hi.symm⟩

/-- Where the rule names no byte of cartridge RAM, there is none to reach (R105). -/
theorem cartRamIndex_eq_none {s : State} {a : Word} (h : ∀ i, ¬s.CartRamByte a i) :
    s.cartRamIndex a = none :=
  Option.eq_none_iff_forall_ne_some.2 fun i hi => h i ((cartRamByte_iff s a i).2 hi)

/-- Settles O8: the window is one region, whose read and write go through the byte R105 names. -/
theorem cartridgeRamAccess : Obligations.CartridgeRamAccess := by
  unfold Obligations.CartridgeRamAccess
  intro s a hlo hhi
  have hregion := (regionOf_eq_cartRam_iff a).2 ⟨hlo, hhi⟩
  refine ⟨fun i hbyte => ?_, fun hnone => ?_⟩
  · have hi := (cartRamByte_iff s a i).1 hbyte
    refine ⟨by rw [busRead_cartRam s hregion, hi, Option.map_some], fun v => ?_⟩
    refine ⟨_, by rw [busWrite_cartRam s v hregion, hi, Option.map_some], ?_, fun j hj => ?_⟩
    · exact (Memory.read_write _ _ _ _).trans (if_pos rfl)
    · exact (Memory.read_write _ _ _ _).trans (if_neg hj)
  · have hi := cartRamIndex_eq_none hnone
    exact .of_none (by rw [busRead_cartRam s hregion, hi, Option.map_none])
      fun v => by rw [busWrite_cartRam s v hregion, hi, Option.map_none]

/-- Two addresses of the window that reach the same byte are the same address. -/
theorem cartRamIndex_injective {s : State} {a b : Word} {i : Nat} (hra : regionOf a = .cartRam)
    (hrb : regionOf b = .cartRam) (ha : s.cartRamIndex a = some i)
    (hb : s.cartRamIndex b = some i) : a = b := by
  obtain ⟨r, hr, -, -, -, hai⟩ := (cartRamByte_iff s a i).2 ha
  obtain ⟨r', hr', -, -, -, hbi⟩ := (cartRamByte_iff s b i).2 hb
  obtain rfl := BankController.mbc1.inj (hr.symm.trans hr')
  rw [regionOf_eq_cartRam_iff] at hra hrb
  apply BitVec.eq_of_toNat_eq
  omega

/-! ## The control writes of MBC1 -/

/-- The low bits of a byte, as a field of the controller takes them. -/
theorem extractLsb'_zero_eq_ofNat (v : Byte) (n : Nat) :
    v.extractLsb' 0 n = BitVec.ofNat n v.toNat := by
  apply BitVec.eq_of_toNat_eq
  rw [BitVec.extractLsb'_toNat, BitVec.toNat_ofNat, Nat.shiftRight_zero]

theorem Mbc1.control_ramEn (r : Mbc1) {a : Word} (v : Byte) (h : a.toNat < 0x2000) :
    r.control a v = { r with ramEn := decide (v.toNat % 16 = 0xA) } := by
  have hlow : v.extractLsb' 0 4 = 0xA ↔ v.toNat % 16 = 0xA := by
    rw [← BitVec.toNat_inj, extractLsb'_zero_eq_ofNat, BitVec.toNat_ofNat]
    rfl
  rw [Mbc1.control, if_pos h, decide_eq_decide.2 hlow]

theorem Mbc1.control_bank1 (r : Mbc1) {a : Word} (v : Byte) (hlo : 0x2000 ≤ a.toNat)
    (hhi : a.toNat < 0x4000) :
    r.control a v =
      { r with bank1 := if v.toNat % 32 = 0 then 1 else BitVec.ofNat 5 v.toNat } := by
  have hlow : BitVec.ofNat 5 v.toNat = 0 ↔ v.toNat % 32 = 0 := by
    rw [← BitVec.toNat_inj, BitVec.toNat_ofNat]
    rfl
  simp only [Mbc1.control, if_neg (Nat.not_lt.2 hlo), if_pos hhi, extractLsb'_zero_eq_ofNat, hlow]

theorem Mbc1.control_bank2 (r : Mbc1) {a : Word} (v : Byte) (hlo : 0x4000 ≤ a.toNat)
    (hhi : a.toNat < 0x6000) :
    r.control a v = { r with bank2 := BitVec.ofNat 2 v.toNat } := by
  rw [Mbc1.control, if_neg (by omega), if_neg (by omega), if_pos hhi, extractLsb'_zero_eq_ofNat]

theorem Mbc1.control_mode (r : Mbc1) {a : Word} (v : Byte) (hlo : 0x6000 ≤ a.toNat) :
    r.control a v = { r with mode := decide (v.toNat % 2 = 1) } := by
  rw [Mbc1.control, if_neg (by omega), if_neg (by omega), if_neg (by omega), BitVec.getLsbD,
    Nat.testBit_zero]

theorem busWrite_mbc1 {s : State} {r : Mbc1} {a : Word} (v : Byte) (hb : s.bank = .mbc1 r)
    (h : a.toNat < 0x8000) : s.busWrite a v = some { s with bank := .mbc1 (r.control a v) } := by
  rw [busWrite_control s v h]
  simp only [State.controlWrite, hb]

/-- Settles O9: a control write is accepted and the controller takes its one register. -/
theorem controlWrites : Obligations.ControlWrites := by
  unfold Obligations.ControlWrites
  refine fun s r a v hb => ⟨fun hhi => ?_, fun hlo hhi => ?_, fun hlo hhi => ?_, fun hlo hhi => ?_⟩
  · rw [busWrite_mbc1 v hb (by omega), Mbc1.control_ramEn r v hhi]
  · rw [busWrite_mbc1 v hb (by omega), Mbc1.control_bank1 r v hlo hhi]
  · rw [busWrite_mbc1 v hb (by omega), Mbc1.control_bank2 r v hlo hhi]
  · rw [busWrite_mbc1 v hb hhi, Mbc1.control_mode r v hlo]

/-- R101's zero taken as 1, as a conditional and as a maximum. -/
theorem bank1_max_one (n : Nat) :
    BitVec.ofNat 5 (max 1 (n % 32)) = if n % 32 = 0 then 1 else BitVec.ofNat 5 n := by
  split
  · rename_i hzero
    rw [hzero]
    rfl
  · rw [Nat.max_eq_right (by omega)]
    exact BitVec.eq_of_toNat_eq (by simp)

/-- A control address moves the controller as its write does (R99 to R103). -/
theorem bankAfter_mbc1 (r : Mbc1) {a : Word} (v : Byte) (h : a.toNat < 0x8000) :
    bankAfter (.mbc1 r) a v = .mbc1 (r.control a v) := by
  unfold bankAfter
  dsimp only
  split_ifs with h1 h2 h3
  · rw [Mbc1.control_ramEn r v h1]
  · rw [Mbc1.control_bank1 r v (by omega) h2, bank1_max_one]
  · rw [Mbc1.control_bank2 r v (by omega) h3]
  · rw [Mbc1.control_mode r v (by omega)]

/-- Any other address leaves the controller. -/
theorem bankAfter_of_le (b : BankController) {a : Word} (v : Byte) (h : 0x8000 ≤ a.toNat) :
    bankAfter b a v = b := by
  unfold bankAfter
  cases b with
  | romOnly => rfl
  | mbc1 r =>
    dsimp only
    rw [if_neg (by omega), if_neg (by omega), if_neg (by omega), if_neg (by omega)]

/-! ## What one accepted write stores -/

/-- A write is accepted exactly where the address has a legal target (R93, R94). -/
theorem isSome_busWrite_iff (s : State) (a : Word) (v : Byte) :
    (s.busWrite a v).isSome = true ↔ s.Writable a := by
  unfold State.Writable
  rcases regionOf_cases a with h | h | h | h
  · rw [if_pos h, busWrite_control s v h, State.controlWrite]
    cases s.bank <;> simp
  · have hrange := (regionOf_eq_cartRam_iff a).1 h
    rw [if_neg (by omega), if_pos hrange, busWrite_cartRam s v h, Option.isSome_map]
    simp only [cartRamByte_iff, Option.isSome_iff_exists]
  · have hrange := (isStorage_regionOf_iff a).1 h
    rw [if_neg (by omega), if_neg (by omega), busWrite_storage s v h]
    exact iff_of_true rfl (by omega)
  · have hrange := (regionOf_unrecognized_iff a).1 h
    rw [if_neg (by omega), if_neg (by omega), busWrite_unrecognized s v h]
    exact iff_of_false (by simp) (by omega)

/-- Which byte of cartridge RAM an address reaches depends on the controller and the declared size
alone (R105). -/
theorem cartRamIndex_congr {s t : State} (hb : t.bank = s.bank) (hz : t.ramSize = s.ramSize)
    (a : Word) : t.cartRamIndex a = s.cartRamIndex a := by
  unfold State.cartRamIndex
  rw [hb, hz]

theorem busRead_withCartRam_of_ne (s : State) (m : Memory) {b : Word} (h : regionOf b ≠ .cartRam) :
    ({ s with cartRam := m } : State).busRead b = s.busRead b := by
  unfold State.busRead
  cases hr : regionOf b with
  | cartRam => exact absurd hr h
  | _ => rfl

theorem busRead_withMem_of_not_storage (s : State) (m : Memory) {b : Word}
    (h : (regionOf b).isStorage ≠ true) :
    ({ s with mem := m } : State).busRead b = s.busRead b := by
  unfold State.busRead
  cases hr : regionOf b with
  | videoRam | workRam | oam | io | highRam | ie =>
    exact absurd (congrArg Region.isStorage hr) h
  | _ => rfl

/-- Outside the two banked windows a read does not depend on the controller. -/
theorem busRead_withBank_of_unbanked (s : State) (k : BankController) {b : Word}
    (hrom : ¬(0x4000 ≤ b.toNat ∧ b.toNat < 0x8000))
    (hram : ¬(0xA000 ≤ b.toNat ∧ b.toNat < 0xC000)) :
    ({ s with bank := k } : State).busRead b = s.busRead b := by
  unfold State.busRead
  cases hr : regionOf b with
  | romSwitch => exact absurd ((regionOf_eq_romSwitch_iff b).1 hr) hrom
  | cartRam => exact absurd ((regionOf_eq_cartRam_iff b).1 hr) hram
  | _ => rfl

/-- A control write is one store to the controller (R99). -/
theorem stored_control {s : State} {r : Mbc1} {a : Word} (v : Byte) (ha : a.toNat < 0x8000)
    (hb : s.bank = .mbc1 r) : Stored a v s { s with bank := .mbc1 (r.control a v) } where
  reads h := absurd ha (Nat.not_lt.2 h)
  outside h := absurd ha (Nat.not_lt.2 h)
  control _ b hrom hram := busRead_withBank_of_unbanked s _ hrom hram
  bank := by rw [hb, bankAfter_mbc1 r v ha]
  mem k := (if_neg (by rw [isStorage_regionOf_iff]; omega)).symm
  cartRam i := (if_neg (by rw [regionOf_eq_cartRam_iff]; omega)).symm
  rom _ := rfl
  romBankCount := rfl
  ramSize := rfl

/-- A write of the cartridge RAM window is one store to the byte it reaches (R105). -/
theorem stored_cartRam {s : State} {a : Word} {i : Nat} (v : Byte) (ha : regionOf a = .cartRam)
    (hi : s.cartRamIndex a = some i) :
    Stored a v s { s with cartRam := s.cartRam.write i v } := by
  have hrange := (regionOf_eq_cartRam_iff a).1 ha
  have hread : ∀ b, regionOf b = .cartRam →
      ({ s with cartRam := s.cartRam.write i v } : State).busRead b =
        (s.cartRamIndex b).map fun j => if j = i then v else s.cartRam.read j := by
    intro b hrb
    rw [busRead_cartRam _ hrb, cartRamIndex_congr (s := s) rfl rfl]
    exact congrArg (Option.map · _) (funext fun j => Memory.read_write _ _ _ _)
  exact {
    reads := fun _ => by rw [hread a ha, hi, Option.map_some, if_pos rfl]
    outside := fun _ b hba => by
      by_cases hrb : regionOf b = .cartRam
      · rw [hread b hrb, busRead_cartRam s hrb]
        refine Option.map_congr fun j hj => if_neg ?_
        rintro rfl
        exact hba (cartRamIndex_injective hrb ha hj hi)
      · exact busRead_withCartRam_of_ne s _ hrb
    control := fun h => by omega
    bank := (bankAfter_of_le _ _ (by omega)).symm
    mem := fun k => by rw [ha, if_neg (by simp [Region.isStorage])]
    cartRam := fun j => by
      rw [Memory.read_write, hi]
      simp only [ha, true_and, Option.some.injEq, eq_comm]
    rom := fun _ => rfl
    romBankCount := rfl
    ramSize := rfl }

/-- A write of plain storage is one store at the address (R106). -/
theorem stored_storage {s : State} {a : Word} (v : Byte) (ha : (regionOf a).isStorage = true) :
    Stored a v s { s with mem := s.mem.write a.toNat v } := by
  have hrange := (isStorage_regionOf_iff a).1 ha
  have hread : ∀ b, (regionOf b).isStorage = true →
      ({ s with mem := s.mem.write a.toNat v } : State).busRead b =
        some (if b.toNat = a.toNat then v else s.mem.read b.toNat) := fun b hrb =>
    (busRead_storage _ hrb).trans (congrArg some (Memory.read_write _ _ _ _))
  exact {
    reads := fun _ => by rw [hread a ha, if_pos rfl]
    outside := fun _ b hba => by
      by_cases hrb : (regionOf b).isStorage = true
      · rw [hread b hrb, busRead_storage s hrb, if_neg (mt BitVec.eq_of_toNat_eq hba)]
      · exact busRead_withMem_of_not_storage s _ hrb
    control := fun h => by omega
    bank := (bankAfter_of_le _ _ (by omega)).symm
    mem := fun k => by
      rw [Memory.read_write]
      simp only [ha, true_and]
    cartRam := fun j => (if_neg (by rw [regionOf_eq_cartRam_iff]; omega)).symm
    rom := fun _ => rfl
    romBankCount := rfl
    ramSize := rfl }

/-- An accepted write is one store, in each of the three things it can be (R93). -/
theorem busWrite_stored {s t : State} {a : Word} {v : Byte} (h : s.busWrite a v = some t) :
    Stored a v s t := by
  obtain ⟨hregion, r, hb, rfl⟩ | ⟨ha, i, hi, rfl⟩ | ⟨ha, rfl⟩ := busWrite_cases h
  · rw [regionOf_eq_romFixed_iff, regionOf_eq_romSwitch_iff] at hregion
    exact stored_control v (by omega) hb
  · exact stored_cartRam v ha hi
  · exact stored_storage v ha

/-- No register, no control state and no cycle count changes with an accepted write (R93). -/
theorem busWrite_frame {s t : State} {a : Word} {v : Byte} (h : s.busWrite a v = some t) :
    KeepsWords [] s t ∧ SameControl s t ∧ t.cycles = s.cycles := by
  rw [busWrite_only h]
  refine ⟨fun q _ => ?_, ⟨rfl, rfl, rfl, rfl, rfl, rfl⟩, rfl⟩
  cases q <;> rfl

/-- Settles O10: a write is accepted exactly where the target is legal, and is then one store. -/
theorem writeStoresOnce : Obligations.WriteStoresOnce := by
  unfold Obligations.WriteStoresOnce
  refine fun s a v => ⟨fun h => ?_, fun h => ?_⟩
  · obtain ⟨t, ht⟩ := Option.isSome_iff_exists.1 ((isSome_busWrite_iff s a v).2 h)
    exact ⟨t, ht, busWrite_stored ht, busWrite_frame ht⟩
  · exact Option.not_isSome_iff_eq_none.1 (mt (isSome_busWrite_iff s a v).1 h)

/-! ## The host's writes -/

/-- After the host's writes a byte holds the last value written to it, or what it held (R114). -/
theorem Memory.read_hostWrites (m : Memory) (ws : List HostWrite) (k : Nat) :
    (m.hostWrites ws).read k =
      ((ws.reverse.find? fun w => w.address == k).map HostWrite.value).getD (m.read k) := by
  induction ws using List.reverseRecOn with
  | nil => rfl
  | append_singleton ws w ih =>
    have hlast : m.hostWrites (ws ++ [w]) = (m.hostWrites ws).write w.address w.value := by
      simp only [Memory.hostWrites, List.foldl_concat]
    rw [hlast, Memory.read_write, List.reverse_concat]
    by_cases hk : w.address = k
    · rw [if_pos hk.symm, List.find?_cons_of_pos (by simpa using hk), Option.map_some,
        Option.getD_some]
    · rw [if_neg (Ne.symm hk), List.find?_cons_of_neg (by simpa using hk), ih]

/-- Settles O11: a host write names only its two ranges, and the boundary replays the writes over
plain storage alone. -/
theorem hostWritesOnlyItsBytes : Obligations.HostWritesOnlyItsBytes := by
  unfold Obligations.HostWritesOnlyItsBytes
  intro s ws rest hs
  have hphase : s.hostPhase = { s with mem := s.mem.hostWrites ws, hostInput := rest } := by
    rw [State.hostPhase, hs]
    rfl
  rw [hphase]
  exact ⟨fun w _ => hostWrite_address w, Memory.read_hostWrites s.mem ws, rfl⟩

end Sys2Proof.Machine
end

section
/-! PROOFS. Decoder and encoder (30_encoding): an instruction is read from its opcode byte and the
operand bytes it has, its encoding is those bytes again, and so decode and encode undo each
other. -/

namespace Sys2Proof

/-! ## The instruction of an opcode and its operands -/

/-- The instruction of an opcode byte and the list of its operand bytes (R150). -/
def instrOf (o : Byte) (operands : List Byte) : Instr :=
  decodeOp o (operands.getD 0 0) (operands.getD 1 0)

/-- STOP takes nothing from the bytes after its opcode (R164). -/
@[simp] theorem instrOf_stopByte (ops : List Byte) : instrOf stopByte ops = .stop := rfl

theorem operandCount_le_two (o : Byte) : operandCount o ≤ 2 := by
  unfold operandCount
  split
  · exact le_rfl
  · split
    · exact one_le_two
    · exact zero_le_two

/-! ## The decoder on a byte list -/

/-- An opcode with all its operands decodes to its instruction, whatever follows (R151, R162). -/
theorem decode_operands {o : Byte} {ops : List Byte} (rest : List Byte)
    (hlen : ops.length = operandCount o) (hstop : o ≠ stopByte) :
    decode (o :: (ops ++ rest)) = .ok (instrOf o ops, rest) := by
  have hprefix : ¬ (o = prefixByte ∧ ops ++ rest = []) := by
    rintro ⟨rfl, hnil⟩
    rw [(List.append_eq_nil_iff.1 hnil).1] at hlen
    cases hlen
  have hcount : ops.length ≤ 2 := hlen ▸ operandCount_le_two o
  unfold decode
  dsimp only
  rw [if_neg hstop, if_neg hprefix, ← hlen]
  match ops, hcount with
  | [], _ => rfl
  | [_], _ => rfl
  | [_, _], _ => rfl

/-- What a byte list that decodes can be: STOP and any byte after it (R164), 0xCB with nothing
after it, or an opcode with all its operands. -/
theorem decode_ok {bs rest : List Byte} {i : Instr} (h : decode bs = .ok (i, rest)) :
    (∃ tail, bs = stopByte :: tail ∧ i = .stop ∧ rest = tail.drop 1) ∨
      (bs = [prefixByte] ∧ i = .prefix_cb ∧ rest = []) ∨
      ∃ o ops, bs = o :: (ops ++ rest) ∧ ops.length = operandCount o ∧ o ≠ stopByte ∧
        i = instrOf o ops := by
  unfold decode at h
  split at h
  · cases h
  · rename_i o tail
    split at h
    · rename_i hstop
      cases h
      exact .inl ⟨tail, by rw [hstop], rfl, rfl⟩
    · rename_i hstop
      split at h
      · rename_i hprefix
        obtain ⟨rfl, rfl⟩ := hprefix
        cases h
        exact .inr (.inl ⟨rfl, rfl, rfl⟩)
      · split at h
        · rename_i hcount _
          cases h
          exact .inr (.inr ⟨o, [], rfl, hcount.symm, hstop, rfl⟩)
        · rename_i b1 more hcount _
          cases h
          exact .inr (.inr ⟨o, [b1], rfl, hcount.symm, hstop, rfl⟩)
        · rename_i b1 b2 more hcount _
          cases h
          exact .inr (.inr ⟨o, [b1, b2], rfl, hcount.symm, hstop, rfl⟩)
        · cases h

/-! ## The encoding of what an opcode and its operands stand for -/

/-- Every row of the secondary table is encoded as 0xCB and the byte it is read from (R158). -/
theorem encode_decodeCb (b : Byte) : encode (decodeCb b) = [prefixByte, b] := by
  revert b
  decide

/-- A row without an operand is encoded as its opcode (R157). -/
theorem encode_decodeOp_of_count_zero :
    ∀ o : Byte, operandCount o = 0 → o ≠ stopByte → encode (decodeOp o 0 0) = [o] := by
  decide

/-- A row with an immediate byte, or 0xCB with its secondary opcode, is encoded as the two
bytes it is read from (R151). -/
theorem encode_decodeOp_of_count_one {o : Byte} (b : Byte) (h : operandCount o = 1) :
    encode (decodeOp o b 0) = [o, b] := by
  unfold operandCount at h
  split at h
  · cases h
  · split at h
    · rename_i hmem
      fin_cases hmem
      -- 0xCB is the last opcode of the model's list
      on_goal 26 => exact encode_decodeCb b
      all_goals rfl
    · cases h

/-- A row with a word is encoded as its opcode and the two bytes of the word, the low one first
(R151, R155). -/
theorem encode_decodeOp_of_count_two {o : Byte} (b1 b2 : Byte) (h : operandCount o = 2) :
    encode (decodeOp o b1 b2) = [o, b1, b2] := by
  have hbytes : encode (decodeOp o b1 b2) = [o, loByte (mkWord b2 b1), hiByte (mkWord b2 b1)] := by
    unfold operandCount at h
    split at h
    · rename_i hmem
      fin_cases hmem <;> rfl
    · split at h <;> cases h
  rw [hbytes, loByte_mkWord, hiByte_mkWord]

/-- The instruction of an opcode and its operands is encoded as these bytes, STOP apart. -/
theorem encode_instrOf {o : Byte} {ops : List Byte} (hlen : ops.length = operandCount o)
    (hstop : o ≠ stopByte) : encode (instrOf o ops) = o :: ops := by
  have hcount : ops.length ≤ 2 := hlen ▸ operandCount_le_two o
  match ops, hcount with
  | [], _ => exact encode_decodeOp_of_count_zero o hlen.symm hstop
  | [b], _ => exact encode_decodeOp_of_count_one b hlen.symm
  | [b1, b2], _ => exact encode_decodeOp_of_count_two b1 b2 hlen.symm

/-- Every well-formed instruction but STOP is the instruction of the bytes it is encoded as. The
word of a 16-bit immediate is put together again from its two bytes. -/
theorem exists_instrOf_eq {i : Instr} (hwf : i.wellFormed = true) (hstop : i ≠ .stop) :
    ∃ o ops, encode i = o :: ops ∧ ops.length = operandCount o ∧ instrOf o ops = i := by
  cases i with
  | prefix_cb => cases hwf
  | stop => exact absurd rfl hstop
  | ld_bc_d16 nn | ld_de_d16 nn | ld_hl_d16 nn | ld_sp_d16 nn | ld_ma16_sp nn | ld_ma16_a nn
  | ld_a_ma16 nn | jp_a16 nn | jp_nz_a16 nn | jp_z_a16 nn | jp_nc_a16 nn | jp_c_a16 nn
  | call_a16 nn | call_nz_a16 nn | call_z_a16 nn | call_nc_a16 nn | call_c_a16 nn =>
    exact ⟨_, _, rfl, rfl, (congrArg _ (mkWord_hiByte_loByte nn).symm).symm⟩
  | _ => exact ⟨_, _, rfl, rfl, rfl⟩

/-! ## The two round trips -/

/-- Settles O59: the encoding is an opcode with all its operands, and they are read back. -/
theorem decodeOfEncode : Obligations.DecodeOfEncode := by
  unfold Obligations.DecodeOfEncode
  intro i rest hwf
  by_cases hi : i = .stop
  · subst hi
    rfl
  · obtain ⟨o, ops, hbytes, hlen, hinstr⟩ := exists_instrOf_eq hwf hi
    have hstop : o ≠ stopByte := by
      rintro rfl
      exact hi (hinstr.symm.trans (instrOf_stopByte ops))
    rw [hbytes, List.cons_append, decode_operands rest hlen hstop, hinstr]

/-- Settles O60: the bytes that were read, by the kinds of byte list that decode. -/
theorem encodeOfDecode : Obligations.EncodeOfDecode := by
  unfold Obligations.EncodeOfDecode
  intro bs rest i h hi
  obtain ⟨_, _, rfl, _⟩ | ⟨rfl, rfl, rfl⟩ | ⟨o, ops, rfl, hlen, hstop, rfl⟩ := decode_ok h
  · exact absurd rfl hi
  · rfl
  · rw [encode_instrOf hlen hstop, List.cons_append]

/-- Settles O58: the decoder evaluated on the twelve words. -/
theorem sampleWords : Obligations.SampleWords := by
  unfold Obligations.SampleWords
  exact ⟨rfl, rfl, rfl, rfl, rfl, rfl, rfl, rfl, rfl, rfl, rfl, rfl⟩

end Sys2Proof
end

section
/-! PROOFS. The engine (40_engine): what `exec` is on each row of the tables, that every
instruction and so every step answers, and what an instruction step runs. -/

namespace Sys2Proof.Machine

/-! ## The meaning of a table row -/

section Rows

variable (s : State)

theorem exec_rowLd {dst src : R8} (h : ¬(dst = .mhl ∧ src = .mhl)) :
    exec (rowLd dst src) s =
      loadR8 dst src (if dst.reg = none ∨ src.reg = none then 2 else 1) s := by
  cases dst <;> cases src
  case mhl.mhl => exact absurd ⟨rfl, rfl⟩ h
  all_goals rfl

@[simp] theorem exec_rowLdImm (r : R8) (n : Byte) :
    exec (rowLdImm r n) s = loadR8Imm r n (if r.reg = none then 3 else 2) s := by
  cases r <;> rfl

@[simp] theorem exec_rowInc (r : R8) :
    exec (rowInc r) s = stepR8 aluInc8 r (if r.reg = none then 3 else 1) s := by
  cases r <;> rfl

@[simp] theorem exec_rowDec (r : R8) :
    exec (rowDec r) s = stepR8 aluDec8 r (if r.reg = none then 3 else 1) s := by
  cases r <;> rfl

@[simp] theorem exec_rowAlu (op : AluOp) (r : R8) :
    exec (rowAlu op r) s = aluR8 op r (if r.reg = none then 2 else 1) s := by
  cases op <;> cases r <;> rfl

@[simp] theorem exec_rowAluImm (op : AluOp) (n : Byte) :
    exec (rowAluImm op n) s = aluImm op n 2 s := by
  cases op <;> rfl

@[simp] theorem exec_rowLdRp (r : Rp) (nn : Word) :
    exec (rowLdRp r nn) s = loadRp r nn 3 s := by
  cases r <;> rfl

@[simp] theorem exec_rowAddHl (r : Rp) : exec (rowAddHl r) s = addHl r 2 s := by
  cases r <;> rfl

@[simp] theorem exec_rowIncRp (r : Rp) : exec (rowIncRp r) s = stepRp 1 r 2 s := by
  cases r <;> rfl

@[simp] theorem exec_rowDecRp (r : Rp) : exec (rowDecRp r) s = stepRp (-1) r 2 s := by
  cases r <;> rfl

@[simp] theorem exec_rowPush (r : Rp2) : exec (rowPush r) s = pushRp2 r 4 s := by
  cases r <;> rfl

@[simp] theorem exec_rowPop (r : Rp2) : exec (rowPop r) s = popRp2 r 3 s := by
  cases r <;> rfl

@[simp] theorem exec_rowJr (cc : Cond) (e : Byte) :
    exec (rowJr cc e) s = jumpIf cc (s.pc + 2 + sext16 e) 2 2 3 s := by
  cases cc <;> rfl

@[simp] theorem exec_rowJp (cc : Cond) (nn : Word) :
    exec (rowJp cc nn) s = jumpIf cc nn 3 3 4 s := by
  cases cc <;> rfl

@[simp] theorem exec_rowCall (cc : Cond) (nn : Word) :
    exec (rowCall cc nn) s = callIf cc nn 3 6 s := by
  cases cc <;> rfl

@[simp] theorem exec_rowRet (cc : Cond) : exec (rowRet cc) s = returnIf cc 2 5 s := by
  cases cc <;> rfl

@[simp] theorem exec_rowRst (y : Fin 8) :
    exec (rowRst y) s = callTo 1 (BitVec.ofNat 16 (8 * y.val)) 4 s := by
  fin_cases y <;> rfl

@[simp] theorem exec_rowRot (op : RotOp) (r : R8) :
    exec (rowRot op r) s = rotR8 op r (secondaryCycles r) s := by
  cases op <;> cases r <;> rfl

@[simp] theorem exec_rowBit (b : Fin 8) (r : R8) :
    exec (rowBit b r) s = bitR8 b r (bitCycles r) s := by
  fin_cases b <;> cases r <;> rfl

@[simp] theorem exec_rowRes (b : Fin 8) (r : R8) :
    exec (rowRes b r) s = resR8 b r (secondaryCycles r) s := by
  fin_cases b <;> cases r <;> rfl

@[simp] theorem exec_rowSet (b : Fin 8) (r : R8) :
    exec (rowSet b r) s = setR8 b r (secondaryCycles r) s := by
  fin_cases b <;> cases r <;> rfl

/-- The secondary instruction of a byte is what PREFIX CB runs for it (R426). -/
theorem exec_decodeCb (o : Byte) : exec (decodeCb o) s = secondary o s := by
  unfold decodeCb secondary
  generalize fieldX o = x
  match x with
  | 0 => exact exec_rowRot s _ _
  | 1 => exact exec_rowBit s _ _
  | 2 => exact exec_rowRes s _ _
  | _ + 3 => exact exec_rowSet s _ _

end Rows

/-! ## Every outcome answers -/

/-- The outcome is a next state or one of the spec's fatal errors. -/
def Answers (o : Out) : Prop := (∃ t, o = .next t) ∨ ∃ e, o = .fault (.fatal e)

theorem answers_next (t : State) : Answers (.next t) := .inl ⟨t, rfl⟩

theorem answers_raise (e : FatalError) : Answers (raise e) := .inr ⟨e, rfl⟩

theorem answers_retire (len : Word) (cyc : Nat) (s : State) : Answers (retire len cyc s) :=
  answers_next _

theorem answers_jumpTo (a : Word) (cyc : Nat) (s : State) : Answers (jumpTo a cyc s) :=
  answers_next _

section Access

variable {s : State} {a : Word} {v : Byte}

theorem answers_readByte {kind : AccessKind} {k : Byte → Out} (h : ∀ v, Answers (k v)) :
    Answers (readByte kind a s k) := by
  unfold readByte
  split
  · exact h _
  · exact answers_raise _

theorem answers_storeByte {k : State → Out} (h : ∀ t, Answers (k t)) :
    Answers (storeByte a v s k) := by
  unfold storeByte
  split
  · exact h _
  · exact answers_raise _

theorem answers_push16 {w : Word} {k : State → Out} (h : ∀ t, Answers (k t)) :
    Answers (push16 w s k) :=
  answers_storeByte fun _ => answers_storeByte h

theorem answers_pop16 {k : Word → State → Out} (h : ∀ w t, Answers (k w t)) :
    Answers (pop16 s k) :=
  answers_readByte fun _ => answers_readByte fun _ => h _ _

theorem answers_readR8 {r : R8} {k : Byte → Out} (h : ∀ v, Answers (k v)) :
    Answers (readR8 r s k) := by
  unfold readR8
  split
  · exact h _
  · exact answers_readByte h

theorem answers_writeR8 {r : R8} {k : State → Out} (h : ∀ t, Answers (k t)) :
    Answers (writeR8 r v s k) := by
  unfold writeR8
  split
  · exact h _
  · exact answers_storeByte h

/-- A read of an operand, its new value written back, and then the end of the handler: the form
of every read-modify-write instruction (R364). -/
theorem answers_readWriteR8 {src dst : R8} {f : Byte → Byte} {k : Byte → State → Out}
    (h : ∀ v t, Answers (k v t)) :
    Answers (readR8 src s fun v => writeR8 dst (f v) s (k v)) :=
  answers_readR8 fun v => answers_writeR8 (h v)

theorem answers_loadA (len : Word) (cyc : Nat) : Answers (loadA a len cyc s) :=
  answers_readByte fun _ => answers_retire _ _ _

theorem answers_storeA (len : Word) (cyc : Nat) : Answers (storeA a len cyc s) :=
  answers_storeByte (answers_retire _ _)

theorem answers_loadAStep (delta : Word) (cyc : Nat) : Answers (loadAStep delta cyc s) :=
  answers_readByte fun _ => answers_retire _ _ _

theorem answers_storeAStep (delta : Word) (cyc : Nat) : Answers (storeAStep delta cyc s) :=
  answers_storeByte fun _ => answers_retire _ _ _

theorem answers_jumpIf (cc : Cond) (len : Word) (cyc taken : Nat) :
    Answers (jumpIf cc a len cyc taken s) := by
  unfold jumpIf
  split
  · exact answers_jumpTo _ _ _
  · exact answers_retire _ _ _

theorem answers_callTo (len : Word) (cyc : Nat) : Answers (callTo len a cyc s) :=
  answers_push16 (answers_jumpTo _ _)

theorem answers_callIf (cc : Cond) (cyc taken : Nat) : Answers (callIf cc a cyc taken s) := by
  unfold callIf
  split
  · exact answers_callTo _ _
  · exact answers_retire _ _ _

theorem answers_returnFrom (cyc : Nat) : Answers (returnFrom cyc s) :=
  answers_pop16 fun _ _ => answers_jumpTo _ _ _

theorem answers_returnIf (cc : Cond) (cyc taken : Nat) : Answers (returnIf cc cyc taken s) := by
  unfold returnIf
  split
  · exact answers_returnFrom _
  · exact answers_retire _ _ _

theorem answers_secondary (o : Byte) : Answers (secondary o s) := by
  unfold secondary
  dsimp only
  split
  · exact answers_readWriteR8 fun _ _ => answers_retire _ _ _
  · exact answers_readR8 fun _ => answers_retire _ _ _
  · exact answers_readWriteR8 fun _ => answers_retire _ _
  · exact answers_readWriteR8 fun _ => answers_retire _ _

theorem answers_execHalt : Answers (execHalt s) := by
  unfold execHalt
  split
  · exact answers_raise _
  · exact answers_retire _ _ _

end Access

/-! ## Every instruction and every step answers -/

theorem answers_exec_rowLd (dst src : R8) (s : State) : Answers (exec (rowLd dst src) s) := by
  by_cases h : dst = .mhl ∧ src = .mhl
  · obtain ⟨rfl, rfl⟩ := h
    exact answers_execHalt
  · rw [exec_rowLd s h]
    exact answers_readWriteR8 fun _ => answers_retire _ _

theorem answers_exec_decodeX0 (y z : Nat) (b1 b2 : Byte) (s : State) :
    Answers (exec (decodeX0 y z b1 b2) s) := by
  unfold decodeX0
  split
  · split
    · exact answers_retire _ _ _
    · exact answers_storeByte fun _ => answers_storeByte (answers_retire _ _)
    · exact answers_raise _
    · exact answers_jumpTo _ _ _
    · rw [exec_rowJr]
      exact answers_jumpIf _ _ _ _
  · split
    · rw [exec_rowLdRp]
      exact answers_retire _ _ _
    · rw [exec_rowAddHl]
      exact answers_retire _ _ _
  · split
    · exact answers_storeA _ _
    · exact answers_loadA _ _
    · exact answers_storeA _ _
    · exact answers_loadA _ _
    · exact answers_storeAStep _ _
    · exact answers_loadAStep _ _
    · exact answers_storeAStep _ _
    · exact answers_loadAStep _ _
  · split
    · rw [exec_rowIncRp]
      exact answers_retire _ _ _
    · rw [exec_rowDecRp]
      exact answers_retire _ _ _
  · rw [exec_rowInc]
    exact answers_readWriteR8 fun _ _ => answers_retire _ _ _
  · rw [exec_rowDec]
    exact answers_readWriteR8 fun _ _ => answers_retire _ _ _
  · rw [exec_rowLdImm]
    exact answers_writeR8 (answers_retire _ _)
  · split <;> exact answers_retire _ _ _

theorem answers_exec_decodeX3 (y z : Nat) (b1 b2 : Byte) (s : State) :
    Answers (exec (decodeX3 y z b1 b2) s) := by
  unfold decodeX3
  split
  · split
    · exact answers_storeA _ _
    · exact answers_retire _ _ _
    · exact answers_loadA _ _
    · exact answers_retire _ _ _
    · rw [exec_rowRet]
      exact answers_returnIf _ _ _
  · split
    · exact answers_returnFrom _
    · exact answers_pop16 fun v t => answers_jumpTo v 4 t.interruptsOn
    · exact answers_jumpTo _ _ _
    · exact answers_retire _ _ _
    · rw [exec_rowPop]
      exact answers_pop16 fun _ _ => answers_retire _ _ _
  · split
    · exact answers_storeA _ _
    · exact answers_storeA _ _
    · exact answers_loadA _ _
    · exact answers_loadA _ _
    · rw [exec_rowJp]
      exact answers_jumpIf _ _ _ _
  · split
    · exact answers_jumpTo _ _ _
    · rw [exec_decodeCb]
      exact answers_secondary _
    · exact answers_raise _
    · exact answers_raise _
    · exact answers_raise _
    · exact answers_raise _
    · exact answers_retire _ _ _
    · exact answers_retire _ _ _
  · split
    · exact answers_raise _
    · exact answers_raise _
    · exact answers_raise _
    · exact answers_raise _
    · rw [exec_rowCall]
      exact answers_callIf _ _ _
  · split
    · exact answers_callTo _ _
    · exact answers_raise _
    · exact answers_raise _
    · exact answers_raise _
    · rw [exec_rowPush]
      exact answers_push16 (answers_retire _ _)
  · rw [exec_rowAluImm]
    exact answers_retire _ _ _
  · rw [exec_rowRst]
    exact answers_callTo _ _

/-- Every instruction a step can decode answers, by the four quarters of the primary table. -/
theorem answers_exec_decodeOp (o b1 b2 : Byte) (s : State) :
    Answers (exec (decodeOp o b1 b2) s) := by
  unfold decodeOp
  split
  · exact answers_exec_decodeX0 _ _ _ _ _
  · exact answers_exec_rowLd _ _ _
  · rw [exec_rowAlu]
    exact answers_readR8 fun _ => answers_retire _ _ _
  · exact answers_exec_decodeX3 _ _ _ _ _

theorem answers_latch (s : State) : Answers (latch s) := answers_readByte fun _ => answers_next _

theorem answers_dispatch (s : State) : Answers (dispatch s) := by
  unfold dispatch
  split
  · exact answers_raise _
  · exact answers_push16 fun _ => answers_latch _

theorem answers_fetchOperands {n : Nat} {s : State} {k : Byte → Byte → Out}
    (h : ∀ b1 b2, Answers (k b1 b2)) : Answers (fetchOperands n s k) := by
  unfold fetchOperands
  split
  · exact h _ _
  · exact answers_readByte fun _ => h _ _
  · exact answers_readByte fun _ => answers_readByte fun _ => h _ _

theorem answers_finish {p : Bool} {o : Out} (h : Answers o) : Answers (finish p o) := by
  obtain ⟨t, rfl⟩ | ⟨e, rfl⟩ := h
  · exact answers_latch _
  · exact answers_raise e

theorem answers_instructionStep (s : State) : Answers (instructionStep exec s) :=
  answers_fetchOperands fun _ _ => answers_finish (answers_exec_decodeOp _ _ _ _)

/-- A step of a core with no error, idle, a dispatch or an instruction step, answers (R191). -/
theorem answers_step {s : State} (h : s.error = none) : Answers (step s) := by
  unfold step stepWith
  rw [h]
  dsimp only
  unfold boundaryStep awakeStep
  split
  · exact answers_next _
  · split
    · exact answers_dispatch _
    · exact answers_instructionStep _

theorem step_ne_refused (s : State) (r : Refusal) : step s ≠ .refused r := by
  intro hr
  cases he : s.error with
  | none =>
    obtain ⟨t, ht⟩ | ⟨e, hf⟩ := answers_step he
    · cases ht.symm.trans hr
    · cases hf.symm.trans hr
  | some e => cases (step_of_error he).symm.trans hr

/-- Settles O50: a run that ended refused would have a refused step at its last boundary. -/
theorem stepNeverRefused : Obligations.StepNeverRefused := by
  unfold Obligations.StepNeverRefused
  intro s herr
  refine ⟨answers_step herr, fun n r hend => ?_⟩
  have hlast : (s.run n).ending.Holds (s.run n).state := (run_ending n s).1
  rw [hend] at hlast
  obtain ⟨-, hstep⟩ := hlast
  exact step_ne_refused _ r hstep

/-! ## What an instruction step runs -/

/-- A step that executes an instruction is the instruction step of the woken core (R192). -/
theorem step_of_executes {s : State} (h : s.Executes) : step s = instructionStep exec s.awake := by
  obtain ⟨herr, hawake, hdispatch⟩ := h
  have hidle : ¬(s.hostPhase.halted = true ∧ s.hostPhase.pend = 0) :=
    fun ⟨hhalted, hpend⟩ => hawake hhalted hpend
  have hnone : ¬(s.awake.ime = true ∧ s.awake.pend ≠ 0) :=
    fun ⟨hime, hpend⟩ => hpend (hdispatch hime)
  calc step s = boundaryStep exec s.hostPhase := by rw [step, stepWith, herr]
    _ = awakeStep exec s.awake := if_neg hidle
    _ = instructionStep exec s.awake := if_neg hnone

/-- The operand bytes of a fetched instruction are what the step reads (R193, R194). -/
theorem fetchOperands_of_fetched {s : State} {o : Byte} {ops : List Byte}
    (h : s.Fetched (o :: ops)) (k : Byte → Byte → Out) :
    fetchOperands ops.length s k = k (ops.getD 0 0) (ops.getD 1 0) := by
  match ops, h with
  | [], _ => rfl
  | [_], ⟨_, h1⟩ => exact readByte_of_some h1
  | [_, _], ⟨_, h1, h2⟩ => exact (readByte_of_some h1).trans (readByte_of_some h2)

/-- The first fetched byte is the latched opcode (R193). -/
theorem ir_of_fetched {s : State} {o : Byte} {ops : List Byte} (h : s.Fetched (o :: ops)) :
    s.ir = o := by
  match ops, h with
  | [], h => exact h.symm
  | [_], ⟨h, _⟩ => exact h.symm
  | [_, _], ⟨h, _⟩ => exact h.symm

/-- An instruction step runs the instruction its bytes decode to: STOP, whose further byte is not
read (R164), or the latched opcode with the operands it has. -/
theorem instructionStep_of_fetched {s : State} {bs : List Byte} {i : Instr} (h : s.Fetched bs)
    (hdec : decode bs = .ok (i, [])) (hwf : i.wellFormed = true) :
    instructionStep exec s = finish s.eiPending (exec i s) := by
  unfold instructionStep
  obtain ⟨_, rfl, rfl, -⟩ | ⟨-, rfl, -⟩ | ⟨o, ops, rfl, hlen, -, rfl⟩ := decode_ok hdec
  · rw [ir_of_fetched h]
    rfl
  · cases hwf
  · rw [List.append_nil] at h
    rw [ir_of_fetched h, ← hlen, fetchOperands_of_fetched h]
    rfl

theorem promoted_eq (p : Bool) (s : State) :
    s.promoted p = { s with
      ime := s.ime || (p && s.eiPending)
      eiPending := s.eiPending && !p } := by
  obtain ⟨_, _, _, _, _, _, _, ime, eiPending⟩ := s
  cases p <;> cases eiPending <;> simp [State.promoted, State.interruptsOn]

theorem latch_of_none {s : State} (h : s.busRead s.pc = none) :
    latch s = .fault (.fatal (.unmappedAddressError s.pc .fetch)) := readByte_of_none h

theorem finish_of_latched {p : Bool} {t : State} {b : Byte} (h : t.busRead t.pc = some b) :
    finish p (.next t) = .next { t with
      ir := b
      ime := t.ime || (p && t.eiPending)
      eiPending := t.eiPending && !p } := by
  have hlatch : (t.promoted p).busRead (t.promoted p).pc = some b := by
    rw [busRead_promoted, promoted_pc, h]
  rw [finish, latch_of_some hlatch, promoted_eq]

theorem finish_of_unmapped {p : Bool} {t : State} (h : t.busRead t.pc = none) :
    finish p (.next t) = .fault (.fatal (.unmappedAddressError t.pc .fetch)) := by
  have hlatch : (t.promoted p).busRead (t.promoted p).pc = none := by
    rw [busRead_promoted, promoted_pc, h]
  rw [finish, latch_of_none hlatch, promoted_pc]

/-- Settles O45: the step is the instruction's meaning on the woken core, and what ends an
instruction step (R192). -/
theorem stepRunsDecoded : Obligations.StepRunsDecoded := by
  unfold Obligations.StepRunsDecoded
  intro s bs i hexec hfetched hdec hwf
  have hstep : step s = finish s.eiPending (exec i s.awake) :=
    (step_of_executes hexec).trans (instructionStep_of_fetched hfetched hdec hwf)
  unfold StepFails
  rw [hstep]
  refine ⟨fun t b ht hb => ?_, fun t ht hb => ?_, fun f hf => ?_⟩
  · rw [ht, finish_of_latched hb]
  · rw [ht, finish_of_unmapped hb]
  · rw [hf, finish]

end Sys2Proof.Machine
end

section
/-! PROOFS. The forms the instruction statements share: the bytes of an instruction and the step
around it (Coded), what register writes, stores and the end of a handler leave unchanged, and an
instruction that is one data access and what follows it (LoadForm, StoreForm). -/

namespace Sys2Proof.Machine

/-! ## The bytes of an instruction -/

/-- An opcode with all its operands is never the row PREFIX CB (R426). -/
theorem instrOf_wellFormed {o : Byte} {ops : List Byte} (hlen : ops.length = operandCount o)
    (hstop : o ≠ stopByte) : (instrOf o ops).wellFormed = true := by
  have hne : instrOf o ops ≠ .prefix_cb := by
    intro h
    have hbytes := encode_instrOf hlen hstop
    rw [h] at hbytes
    cases hbytes
    cases hlen
  exact decide_eq_true hne

/-- An unmapped byte at PC+1 fails every step that has an operand to fetch (R194). -/
theorem instructionStep_of_first_unmapped {s : State} (hcount : operandCount s.ir ≠ 0)
    (h : s.busRead (s.pc + 1) = none) :
    instructionStep exec s = .fault (.fatal (.unmappedAddressError (s.pc + 1) .fetch)) := by
  unfold instructionStep
  match operandCount s.ir, hcount with
  | 1, _ => exact readByte_of_none h
  | _ + 2, _ => exact readByte_of_none h

/-- An unmapped byte at PC+2, after a mapped one at PC+1, fails every step with two operand bytes
to fetch (R194). -/
theorem instructionStep_of_second_unmapped {s : State} {b : Byte} (hcount : 2 ≤ operandCount s.ir)
    (h1 : s.busRead (s.pc + 1) = some b) (h2 : s.busRead (s.pc + 2) = none) :
    instructionStep exec s = .fault (.fatal (.unmappedAddressError (s.pc + 2) .fetch)) := by
  unfold instructionStep
  match operandCount s.ir, hcount with
  | _ + 2, _ => exact (readByte_of_some h1).trans (readByte_of_none h2)

/-- An instruction that an opcode and its operands stand for, STOP apart, is coded as these bytes,
and a step fetches them, runs it and latches (R192, R194). For a row of the tables each hypothesis
is an evaluation. -/
theorem coded_of_instrOf {i : Instr} {o : Byte} {ops : List Byte}
    (hi : instrOf o ops = i := by rfl) (hlen : ops.length = operandCount o := by rfl)
    (hstop : o ≠ stopByte := by decide) : Coded i (o :: ops) := by
  subst hi
  have hdec : decode (o :: ops) = .ok (instrOf o ops, []) := by
    simpa using decode_operands [] hlen hstop
  have hruns := fun s hexec hfetched =>
    stepRunsDecoded s _ _ hexec hfetched hdec (instrOf_wellFormed hlen hstop)
  have hcount : ∀ s : State, (o :: ops).head? = some s.ir →
      operandCount s.awake.ir + 1 = (o :: ops).length := by
    intro s hir
    rw [List.length_cons, hlen, Option.some.inj hir]
    rfl
  exact {
    bytes := encode_instrOf hlen hstop
    first := fun hlong s hexec hir hb => by
      rw [← hcount s hir] at hlong
      exact (step_of_executes hexec).trans (instructionStep_of_first_unmapped (by omega) hb)
    second := fun hlong s b hexec hir hb1 hb2 => by
      rw [← hcount s hir] at hlong
      exact (step_of_executes hexec).trans
        (instructionStep_of_second_unmapped (by omega) hb1 hb2)
    steps := fun s t b hexec hfetched => by
      obtain ⟨hmapped, -, -⟩ := hruns s hexec hfetched
      exact hmapped t b
    latch := fun s t hexec hfetched => by
      obtain ⟨-, hunmapped, -⟩ := hruns s hexec hfetched
      exact hunmapped t }

/-! ## What is left unchanged -/

theorem SameControl.trans {s t u : State} (h : SameControl s t) (g : SameControl t u) :
    SameControl s u where
  ir := g.ir.trans h.ir
  ime := g.ime.trans h.ime
  eiPending := g.eiPending.trans h.eiPending
  halted := g.halted.trans h.halted
  error := g.error.trans h.error
  hostInput := g.hostInput.trans h.hostInput

theorem SameMemory.trans {s t u : State} (h : SameMemory s t) (g : SameMemory t u) :
    SameMemory s u where
  busRead a := (g.busRead a).trans (h.busRead a)
  bank := g.bank.trans h.bank
  mem k := (g.mem k).trans (h.mem k)
  cartRam i := (g.cartRam i).trans (h.cartRam i)
  rom k := (g.rom k).trans (h.rom k)
  romBankCount := g.romBankCount.trans h.romBankCount
  ramSize := g.ramSize.trans h.ramSize

/-- A store stays one store when nothing is stored after it. -/
theorem Stored.trans_sameMemory {s t u : State} {a : Word} {v : Byte} (h : Stored a v s t)
    (g : SameMemory t u) : Stored a v s u where
  reads ha := (g.busRead a).trans (h.reads ha)
  outside ha b hb := (g.busRead b).trans (h.outside ha b hb)
  control ha b hrom hram := (g.busRead b).trans (h.control ha b hrom hram)
  bank := g.bank.trans h.bank
  mem k := (g.mem k).trans (h.mem k)
  cartRam i := (g.cartRam i).trans (h.cartRam i)
  rom k := (g.rom k).trans (h.rom k)
  romBankCount := g.romBankCount.trans h.romBankCount
  ramSize := g.ramSize.trans h.ramSize

/-- What two changes one after the other leave is what both leave. -/
theorem KeepsRegs.trans {l m : List Reg8} {s t u : State} (h : KeepsRegs l s t)
    (g : KeepsRegs m t u) : KeepsRegs (l ++ m) s u := fun q hq => by
  rw [List.mem_append, not_or] at hq
  exact (g q hq.2).trans (h q hq.1)

theorem OnlyRegs.trans {l m : List Reg8} {s t u : State} (h : OnlyRegs l s t)
    (g : OnlyRegs m t u) : OnlyRegs (l ++ m) s u where
  regs := h.regs.trans g.regs
  sp := g.sp.trans h.sp
  control := h.control.trans g.control
  memory := h.memory.trans g.memory

/-- The end of a handler moves PC and the cycle output alone (R196, R197). -/
theorem retired_onlyRegs (len : Word) (cyc : Nat) (s : State) :
    OnlyRegs [] s (s.retired len cyc) where
  regs q _ := retired_get8 len cyc s q
  sp := rfl
  control := ⟨rfl, rfl, rfl, rfl, rfl, rfl⟩
  memory := ⟨fun _ => rfl, rfl, fun _ => rfl, fun _ => rfl, fun _ => rfl, rfl, rfl⟩

theorem OnlyRegs.retired {l : List Reg8} {s t : State} (h : OnlyRegs l s t) (len : Word)
    (cyc : Nat) : OnlyRegs l s (t.retired len cyc) :=
  List.append_nil l ▸ h.trans (retired_onlyRegs len cyc t)

theorem advanced_retired {s t : State} (h : t.pc = s.pc) (len : Word) (cyc : Nat) :
    Advanced len cyc s (t.retired len cyc) := ⟨by rw [retired_pc, h], rfl⟩

/-- An 8-bit register is a byte of its pair: what keeps the pair keeps it (R41). -/
theorem get8_congr {s t : State} {q : Reg8} (h : t.get16 q.pair = s.get16 q.pair) :
    t.get8 q = s.get8 q := by
  rw [get8_eq_extractLsb', get8_eq_extractLsb', h]

/-- An 8-bit register write changes that register alone (R42). -/
theorem set8_onlyRegs (s : State) (q : Reg8) (v : Byte) : OnlyRegs [q] s (s.set8 q v) where
  regs _ hr := set8_get8_other s v (by simpa using hr)
  sp := set8_sp s q v
  control := (set8_onlyWords s q v).control
  memory := (set8_onlyWords s q v).memory

/-- A write of HL changes H and L alone (R43). -/
theorem set16_hl_onlyRegs (s : State) (w : Word) : OnlyRegs [.h, .l] s (s.set16 .hl w) where
  regs q hq := get8_congr <| set16_get16_other s w <| by
    cases q <;> simp [Reg8.pair] at hq ⊢
  sp := rfl
  control := set16_sameControl s .hl w
  memory := set16_sameMemory s .hl w

/-- An accepted write keeps every register (R93). -/
theorem busWrite_get16 {s t : State} {a : Word} {v : Byte} (h : s.busWrite a v = some t)
    (q : Reg16) : t.get16 q = s.get16 q := (busWrite_frame h).1 q (by simp)

/-! ## One data access and what follows it -/

section Forms

variable {i : Instr} {a : Word} {s : State}

theorem runs_of_exec {t : State} {P : State → Prop} (hexec : exec i s = .next t) (h : P t) :
    Runs i s P := ⟨t, hexec, h⟩

/-- One data read and then the state `f v` of the byte read (R94). -/
theorem loadForm_of_exec {f : Byte → State} {post : Byte → State → Prop}
    (hexec : exec i s = loadByte a s fun v => .next (f v)) (hpost : ∀ v, post v (f v)) :
    LoadForm i a s post :=
  ⟨fun v hv => runs_of_exec (hexec.trans (readByte_of_some hv)) (hpost v),
    fun hnone => hexec.trans (readByte_of_none hnone)⟩

/-- One store and then the state `f u` of the state it leaves, with registers alone changed after
the store (R93, R94). -/
theorem storeForm_of_exec {v : Byte} {f : State → State} {changed : List Reg8}
    {post : State → Prop} (hexec : exec i s = storeByte a v s fun u => .next (f u))
    (honly : ∀ u, OnlyRegs changed u (f u))
    (hpost : ∀ u, s.busWrite a v = some u → post (f u)) : StoreForm i a v s changed post := by
  obtain ⟨haccepted, hrefused⟩ := writeStoresOnce s a v
  refine ⟨fun hw => ?_, fun hw => hexec.trans (storeByte_of_none (hrefused hw))⟩
  obtain ⟨u, hu, hstored, -, hcontrol, -⟩ := haccepted hw
  have hregs : KeepsRegs [] s u := fun q _ => get8_congr (busWrite_get16 hu q.pair)
  have hsp : u.sp = s.sp := busWrite_get16 hu .sp
  exact runs_of_exec (hexec.trans (storeByte_of_some hu))
    ⟨hstored.trans_sameMemory (honly u).memory, hregs.trans (honly u).regs,
      (honly u).sp.trans hsp, hcontrol.trans (honly u).control, hpost u hu⟩

/-- One store and then the end of the handler. -/
theorem storeForm_retired {v : Byte} {len : Word} {cyc : Nat}
    (hexec : exec i s = storeByte a v s (retire len cyc)) :
    StoreForm i a v s [] (Advanced len cyc s) :=
  storeForm_of_exec hexec (retired_onlyRegs len cyc)
    fun _ hu => advanced_retired (busWrite_get16 hu .pc) len cyc

end Forms

/-! ## The 8-bit operands -/

theorem readR8_of_reg {r : R8} {q : Reg8} (h : r.reg = some q) (s : State) (k : Byte → Out) :
    readR8 r s k = k (s.get8 q) := by
  simp only [readR8, h]

theorem writeR8_of_reg {r : R8} {q : Reg8} (h : r.reg = some q) (v : Byte) (s : State)
    (k : State → Out) : writeR8 r v s k = k (s.set8 q v) := by
  simp only [writeR8, h]

theorem readR8_mhl (s : State) (k : Byte → Out) : readR8 .mhl s k = loadByte s.hl s k := rfl

theorem writeR8_mhl (v : Byte) (s : State) (k : State → Out) :
    writeR8 .mhl v s k = storeByte s.hl v s k := rfl

/-- No 8-bit selector names F (R152). -/
theorem reg_ne_f {r : R8} {q : Reg8} (h : r.reg = some q) : q ≠ .f := by
  rintro rfl
  cases r <;> cases h

theorem ne_mhl_of_reg {r : R8} {q : Reg8} (h : r.reg = some q) : r ≠ .mhl := by
  rintro rfl
  cases h

end Sys2Proof.Machine
end

section
/-! PROOFS. The 8-bit loads and stores (42_load8 R250 to R268): the code of each row, and its
meaning as a register write or as one data access at an address. -/

namespace Sys2Proof.Machine

/-! ## The rows -/

/-- The block x = 1, HALT in its place among the loads (R157). -/
theorem coded_rowLd (dst src : R8) :
    Coded (rowLd dst src) [0x40 + 8 * dst.number + src.number] := by
  cases dst <;> cases src <;> exact coded_of_instrOf

theorem coded_rowLdImm (r : R8) (n : Byte) : Coded (rowLdImm r n) [0x06 + 8 * r.number, n] := by
  cases r <;> exact coded_of_instrOf

/-! ## Loads of a register -/

/-- A byte written to a register and the end of the handler: the frame of every 8-bit load. -/
theorem set8_retired_loaded (s : State) {q : Reg8} (hq : q ≠ .f) (v : Byte) (len : Word)
    (cyc : Nat) :
    ((s.set8 q v).retired len cyc).get8 q = v ∧ OnlyRegs [q] s ((s.set8 q v).retired len cyc) ∧
      Advanced len cyc s ((s.set8 q v).retired len cyc) :=
  ⟨by rw [retired_get8, set8_get8, if_neg hq], (set8_onlyRegs s q v).retired len cyc,
    advanced_retired (set8_pc s q v) len cyc⟩

/-- Settles O12: both operands are registers, so the load is one register write. -/
theorem loadRegisterRegister : Obligations.LoadRegisterRegister := by
  unfold Obligations.LoadRegisterRegister
  intro dst src p q hp hq
  refine ⟨coded_rowLd dst src, fun s => ?_⟩
  have hexec : exec (rowLd dst src) s = .next ((s.set8 p (s.get8 q)).retired 1 1) := by
    rw [exec_rowLd s fun h => ne_mhl_of_reg hp h.1, loadR8, readR8_of_reg hq,
      writeR8_of_reg hp, hp, hq]
    rfl
  exact runs_of_exec hexec (set8_retired_loaded s (reg_ne_f hp) _ 1 1)

/-- Settles O13: an operand at HL makes the load one data access at HL. -/
theorem movesThroughHl : Obligations.MovesThroughHl := by
  unfold Obligations.MovesThroughHl
  intro r q hq
  have hne := ne_mhl_of_reg hq
  refine ⟨?_, ?_, fun s => ⟨?_, ?_⟩⟩
  · have hop : 0x40 + 8 * r.number + R8.mhl.number = 0x46 + 8 * r.number := by
      cases r <;> rfl
    exact hop ▸ coded_rowLd r .mhl
  · exact coded_rowLd .mhl r
  · have hexec : exec (rowLd r .mhl) s =
        loadByte s.hl s fun v => .next ((s.set8 q v).retired 1 2) := by
      rw [exec_rowLd s fun h => hne h.1, if_pos (.inr rfl), loadR8, readR8_mhl]
      simp only [writeR8_of_reg hq]
      rfl
    exact loadForm_of_exec hexec fun v => set8_retired_loaded s (reg_ne_f hq) v 1 2
  · have hexec : exec (rowLd .mhl r) s = storeByte s.hl (s.get8 q) s (retire 1 2) := by
      rw [exec_rowLd s fun h => hne h.2, loadR8, readR8_of_reg hq, writeR8_mhl]
      rfl
    exact storeForm_retired hexec

/-- Settles O14: an immediate is one register write, or one store at HL. -/
theorem loadImmediate : Obligations.LoadImmediate := by
  unfold Obligations.LoadImmediate
  intro n
  refine ⟨fun r q hq => ⟨coded_rowLdImm r n, fun s => ?_⟩, coded_rowLdImm .mhl n,
    fun s => storeForm_retired rfl⟩
  have hexec : exec (rowLdImm r n) s = .next ((s.set8 q n).retired 2 2) := by
    rw [exec_rowLdImm, loadR8Imm, writeR8_of_reg hq, hq]
    rfl
  exact runs_of_exec hexec (set8_retired_loaded s (reg_ne_f hq) n 2 2)

/-! ## The accumulator and an address -/

section Accumulator

variable {i : Instr} {a len : Word} {cyc : Nat} {s : State}

theorem loadForm_loadA (hexec : exec i s = loadA a len cyc s) :
    LoadForm i a s fun v t => t.get8 .a = v ∧ OnlyRegs [.a] s t ∧ Advanced len cyc s t :=
  loadForm_of_exec hexec fun v => set8_retired_loaded s (by decide) v len cyc

theorem storeForm_storeA (hexec : exec i s = storeA a len cyc s) :
    StoreForm i a (s.get8 .a) s [] (Advanced len cyc s) := storeForm_retired hexec

end Accumulator

/-- Settles O15: each is a load of A from its own address. -/
theorem loadAccumulatorFromAddress : Obligations.LoadAccumulatorFromAddress := by
  unfold Obligations.LoadAccumulatorFromAddress
  refine ⟨coded_of_instrOf, coded_of_instrOf, fun lo hi => coded_of_instrOf, fun s => ?_⟩
  exact ⟨loadForm_loadA rfl, loadForm_loadA rfl, fun a => loadForm_loadA rfl⟩

/-- Settles O16: each is a store of A to its own address. -/
theorem storeAccumulatorToAddress : Obligations.StoreAccumulatorToAddress := by
  unfold Obligations.StoreAccumulatorToAddress
  refine ⟨coded_of_instrOf, coded_of_instrOf, fun lo hi => coded_of_instrOf, fun s => ?_⟩
  exact ⟨storeForm_storeA rfl, storeForm_storeA rfl, fun a => storeForm_storeA rfl⟩

/-! ## The high page -/

theorem toNat_highPage (n : Byte) : (highPage n).toNat = 0xFF00 + n.toNat := by
  rw [highPage, mkWord, BitVec.toNat_append, ← Nat.shiftLeft_add_eq_or_of_lt n.isLt]
  rfl

/-- The bits put together are the sum (R265, R266). -/
theorem highPage_eq_add (n : Byte) : highPage n = 0xFF00 + n.zeroExtend 16 := by
  have hn := n.isLt
  have h := toNat_highPage n
  bv_omega

theorem isStorage_highPage (n : Byte) : (regionOf (highPage n)).isStorage = true := by
  rw [isStorage_regionOf_iff, toNat_highPage]
  omega

theorem writable_highPage (s : State) (n : Byte) : s.Writable (highPage n) := by
  rw [← isSome_busWrite_iff s _ 0, busWrite_storage s 0 (isStorage_highPage n)]
  rfl

section HighPage

variable {i : Instr} {off : Byte} {len : Word} {cyc : Nat} {s : State}

/-- A store of A to the high page always has a legal target. -/
theorem runs_storeA_highPage (hexec : exec i s = storeA (highPage off) len cyc s) :
    Runs i s fun t => Stored (highPage off) (s.get8 .a) s t ∧ KeepsRegs [] s t ∧ t.sp = s.sp ∧
      SameControl s t ∧ Advanced len cyc s t :=
  (storeForm_storeA hexec).1 (writable_highPage s off)

/-- A load of A from the high page always has a mapped byte. -/
theorem runs_loadA_highPage (hexec : exec i s = loadA (highPage off) len cyc s) :
    Runs i s fun t => s.busRead (highPage off) = some (t.get8 .a) ∧ OnlyRegs [.a] s t ∧
      Advanced len cyc s t := by
  have hread := busRead_storage s (isStorage_highPage off)
  obtain ⟨t, ht, hv, hframe⟩ := (loadForm_loadA hexec).1 _ hread
  exact ⟨t, ht, hv ▸ hread, hframe⟩

end HighPage

/-- Settles O17: the high page is plain storage, so each access reaches its byte. -/
theorem highPageMoves : Obligations.HighPageMoves := by
  unfold Obligations.HighPageMoves
  refine ⟨fun n => coded_of_instrOf, fun n => coded_of_instrOf, coded_of_instrOf, coded_of_instrOf,
    fun s => ?_⟩
  simp only [← highPage_eq_add]
  exact ⟨fun n => runs_storeA_highPage rfl, fun n => runs_loadA_highPage rfl,
    runs_storeA_highPage rfl, runs_loadA_highPage rfl⟩

/-! ## HL stepped after the access -/

/-- Addition to a word, as the sum of integers modulo 2^16 (R203). -/
theorem add_ofInt (w : Word) (d : Int) :
    w + BitVec.ofInt 16 d = BitVec.ofInt 16 (w.toNat + d) := by
  rw [BitVec.ofInt_add, BitVec.ofInt_natCast, BitVec.ofNat_toNat, BitVec.setWidth_eq]

section Stepped

variable {i : Instr} {cyc : Nat} {s : State}

theorem loadForm_loadAStep (d : Int) (hexec : exec i s = loadAStep (BitVec.ofInt 16 d) cyc s) :
    LoadForm i s.hl s fun v t => t.get8 .a = v ∧ t.get16 .hl = BitVec.ofInt 16 (s.hl.toNat + d) ∧
      OnlyRegs [.a, .h, .l] s t ∧ Advanced 1 cyc s t := by
  refine loadForm_of_exec hexec fun v => ⟨?_, add_ofInt s.hl d, ?_, ?_⟩
  · rw [retired_get8, get8_congr (set16_get16_other _ _ (by decide)), set8_get8,
      if_neg (by decide)]
  · exact ((set8_onlyRegs s .a v).trans (set16_hl_onlyRegs _ _)).retired 1 cyc
  · exact advanced_retired (set8_pc s .a v) 1 cyc

theorem storeForm_storeAStep (d : Int) (hexec : exec i s = storeAStep (BitVec.ofInt 16 d) cyc s) :
    StoreForm i s.hl (s.get8 .a) s [.h, .l] fun t =>
      t.get16 .hl = BitVec.ofInt 16 (s.hl.toNat + d) ∧ Advanced 1 cyc s t := by
  refine storeForm_of_exec hexec (fun u => (set16_hl_onlyRegs u _).retired 1 cyc)
    fun u hu => ⟨?_, advanced_retired (busWrite_get16 hu .pc) 1 cyc⟩
  have hhl : u.hl = s.hl := busWrite_get16 hu .hl
  show u.hl + BitVec.ofInt 16 d = _
  rw [hhl, add_ofInt]

end Stepped

/-- Settles O18: the access is at HL as it was, and HL moves by 1 or by -1. -/
theorem movesThroughSteppedHl : Obligations.MovesThroughSteppedHl := by
  unfold Obligations.MovesThroughSteppedHl
  refine ⟨coded_of_instrOf, coded_of_instrOf, coded_of_instrOf, coded_of_instrOf, fun s => ?_⟩
  exact ⟨storeForm_storeAStep 1 rfl, storeForm_storeAStep (-1) rfl, loadForm_loadAStep 1 rfl,
    loadForm_loadAStep (-1) rfl⟩

end Sys2Proof.Machine
end

section
/-! PROOFS. The forms of the 16-bit instructions: a word written to a register and the end of the
handler, two stores one after the other, a push and a pop (PushForm, PopForm). -/

namespace Sys2Proof.Machine

/-! ## Words -/

theorem OnlyWords.trans {l m : List Reg16} {s t u : State} (h : OnlyWords l s t)
    (g : OnlyWords m t u) : OnlyWords (l ++ m) s u where
  words q hq := by
    rw [List.mem_append, not_or] at hq
    exact (g.words q hq.2).trans (h.words q hq.1)
  control := h.control.trans g.control
  memory := h.memory.trans g.memory

theorem retired_get16_of_ne_pc (len : Word) (cyc : Nat) (s : State) {q : Reg16} (h : q ≠ .pc) :
    (s.retired len cyc).get16 q = s.get16 q := by
  cases q
  case pc => exact absurd rfl h
  all_goals rfl

theorem retired_onlyWords (len : Word) (cyc : Nat) (s : State) :
    OnlyWords [.pc] s (s.retired len cyc) where
  words _ hq := retired_get16_of_ne_pc len cyc s (by simpa using hq)
  control := (retired_onlyRegs len cyc s).control
  memory := (retired_onlyRegs len cyc s).memory

theorem set16_pc_of_ne (s : State) {r : Reg16} (v : Word) (h : r ≠ .pc) :
    (s.set16 r v).pc = s.pc := set16_get16_other s v h.symm

theorem set16_sp_of_ne (s : State) {r : Reg16} (v : Word) (h : r ≠ .sp) :
    (s.set16 r v).sp = s.sp := set16_get16_other s v h.symm

/-- A word written to a register and the end of the handler: the frame of every 16-bit load. -/
theorem set16_retired_loaded (s : State) {r : Reg16} (haf : r ≠ .af) (hpc : r ≠ .pc) (v : Word)
    (len : Word) (cyc : Nat) :
    ((s.set16 r v).retired len cyc).get16 r = v ∧
      OnlyWords [r, .pc] s ((s.set16 r v).retired len cyc) ∧
      Advanced len cyc s ((s.set16 r v).retired len cyc) :=
  ⟨by rw [retired_get16_of_ne_pc _ _ _ hpc, set16_get16, if_neg haf],
    (set16_onlyWords s r v).trans (retired_onlyWords len cyc _),
    advanced_retired (set16_pc_of_ne s v hpc) len cyc⟩

/-- What keeps every pair keeps every 8-bit register (R41). -/
theorem KeepsWords.keepsRegs {l : List Reg16} {s t : State} (h : KeepsWords l s t)
    (hl : ∀ q : Reg8, q.pair ∉ l) : KeepsRegs [] s t := fun q _ => get8_congr (h q.pair (hl q))

/-- A write of SP changes no 8-bit register (R41). -/
theorem set16_sp_keepsRegs (s : State) (w : Word) : KeepsRegs [] s (s.set16 .sp w) :=
  (set16_onlyWords s .sp w).words.keepsRegs fun q => by cases q <;> simp [Reg8.pair]

/-! ## Two stores one after the other -/

/-- An accepted write leaves `b` writable or not as it was, unless it is a control write, which may
disable cartridge RAM, and `b` lies there (R93, R100). -/
theorem writable_iff_of_busWrite {s u : State} {a b : Word} {v : Byte}
    (h : s.busWrite a v = some u)
    (hbanked : a.toNat < 0x8000 → ¬(0xA000 ≤ b.toNat ∧ b.toNat < 0xC000)) :
    u.Writable b ↔ s.Writable b := by
  obtain ⟨hregion, r, hb, rfl⟩ | ⟨-, i, -, rfl⟩ | ⟨-, rfl⟩ := busWrite_cases h
  · rw [regionOf_eq_romFixed_iff, regionOf_eq_romSwitch_iff] at hregion
    have hram := hbanked (by omega)
    simp [State.Writable, hb, hram]
  · exact Iff.rfl
  · exact Iff.rfl

theorem StoredTwo.trans_sameMemory {s t u : State} {a b : Word} {v w : Byte}
    (h : StoredTwo a v b w s t) (g : SameMemory t u) : StoredTwo a v b w s u := by
  obtain ⟨m, hfirst, hsecond⟩ := h
  exact ⟨m, hfirst, hsecond.trans_sameMemory g⟩

/-- Two accepted writes are two stores, and keep every register and the control state (R93). -/
theorem busWrite_busWrite_frame {s u t : State} {a b : Word} {v w : Byte}
    (hu : s.busWrite a v = some u) (ht : u.busWrite b w = some t) :
    StoredTwo a v b w s t ∧ KeepsWords [] s t ∧ SameControl s t := by
  obtain ⟨-, hcontrol, -⟩ := busWrite_frame hu
  obtain ⟨-, hcontrol', -⟩ := busWrite_frame ht
  exact ⟨⟨u, busWrite_stored hu, busWrite_stored ht⟩,
    fun q _ => (busWrite_get16 ht q).trans (busWrite_get16 hu q), hcontrol.trans hcontrol'⟩

section Forms

variable {i : Instr} {s : State}

/-- Two stores and then the state `f t` of the state they leave; the first that has no legal target
decides the fault (R93, R94). -/
theorem twoStores_of_exec {a b : Word} {v w : Byte} {f : State → State} {P : State → Prop}
    (hexec : exec i s = storeByte a v s fun u => storeByte b w u fun t => .next (f t))
    (hbanked : a.toNat < 0x8000 → ¬(0xA000 ≤ b.toNat ∧ b.toNat < 0xC000))
    (hpost : ∀ t, StoredTwo a v b w s t → KeepsWords [] s t → SameControl s t → P (f t)) :
    (s.Writable a → s.Writable b → Runs i s P) ∧
    (¬s.Writable a → Fails i s (.unmappedAddressError a .write)) ∧
    (s.Writable a → ¬s.Writable b → Fails i s (.unmappedAddressError b .write)) := by
  obtain ⟨haccepted, hrefused⟩ := writeStoresOnce s a v
  refine ⟨fun ha hb => ?_, fun ha => hexec.trans (storeByte_of_none (hrefused ha)),
    fun ha hb => ?_⟩
  · obtain ⟨u, hu, -⟩ := haccepted ha
    obtain ⟨t, ht, -⟩ := (writeStoresOnce u b w).1 ((writable_iff_of_busWrite hu hbanked).2 hb)
    obtain ⟨hstored, hwords, hcontrol⟩ := busWrite_busWrite_frame hu ht
    exact runs_of_exec (hexec.trans ((storeByte_of_some hu).trans (storeByte_of_some ht)))
      (hpost t hstored hwords hcontrol)
  · obtain ⟨u, hu, -⟩ := haccepted ha
    have hnone := (writeStoresOnce u b w).2 (mt (writable_iff_of_busWrite hu hbanked).1 hb)
    exact hexec.trans ((storeByte_of_some hu).trans (storeByte_of_none hnone))

/-! ## A push and a pop -/

theorem storeByte_set16 (a : Word) (v : Byte) (s : State) (r : Reg16) (x : Word)
    (k : State → Out) :
    storeByte a v (s.set16 r x) k = storeByte a v s fun u => k (u.set16 r x) := by
  unfold storeByte
  rw [busWrite_set16]
  cases s.busWrite a v <;> rfl

/-- A push is two stores, after which SP moves by two at once: the stores do not read SP (R202). -/
theorem push16_eq_stores (v : Word) (s : State) (k : State → Out) :
    push16 v s k = storeByte (s.sp - 1) (hiByte v) s fun u =>
      storeByte (s.sp - 2) (loByte v) u fun t => k (t.set16 .sp (s.sp - 2)) := by
  have hsp : s.sp - 1 - 1 = s.sp - 2 := by bv_omega
  unfold push16
  rw [storeByte_set16]
  refine congrArg (storeByte _ _ s) (funext fun u => ?_)
  show storeByte (s.sp - 1 - 1) (loByte v) (u.set16 .sp (s.sp - 1 - 1)) k = _
  rw [hsp, storeByte_set16]

/-- A push and then the state `f u` of the state it leaves, with PC and the cycle output alone
changed after the push (R202). -/
theorem pushForm_of_exec {v : Word} {f : State → State} {post : State → Prop}
    (hexec : exec i s = push16 v s fun u => .next (f u))
    (honly : ∀ u, OnlyRegs [] u (f u)) (hpost : ∀ u, u.pc = s.pc → post (f u)) :
    PushForm i v s post := by
  refine twoStores_of_exec (hexec.trans (push16_eq_stores v s _)) (by bv_omega)
    fun t hstored hwords hcontrol => ?_
  have hafter := honly (t.set16 .sp (s.sp - 2))
  exact ⟨hstored.trans_sameMemory ((set16_sameMemory t .sp _).trans hafter.memory), hafter.sp,
    ((hwords.keepsRegs (by simp)).trans (set16_sp_keepsRegs t _)).trans hafter.regs,
    (hcontrol.trans (set16_sameControl t .sp _)).trans hafter.control,
    hpost _ (hwords .pc (by simp))⟩

/-- A pop and then the state `f v u` of the popped word and the state it leaves (R202). -/
theorem popForm_of_exec {f : Word → State → State} {post : Word → State → Prop}
    (hexec : exec i s = pop16 s fun v u => .next (f v u))
    (hsp : ∀ v u, (f v u).sp = u.sp) (hmemory : ∀ v u, SameMemory u (f v u))
    (hpost : ∀ v, post v (f v (s.set16 .sp (s.sp + 2)))) : PopForm i s post := by
  refine ⟨fun lo hi hlo hhi => ?_, fun hlo => ?_, fun lo hlo hhi => ?_⟩
  · exact runs_of_exec (hexec.trans (pop16_of_some hlo hhi))
      ⟨hsp _ _, (set16_sameMemory s .sp _).trans (hmemory _ _), hpost _⟩
  · exact hexec.trans (readByte_of_none hlo)
  · exact hexec.trans ((readByte_of_some hlo).trans (readByte_of_none hhi))

end Forms

end Sys2Proof.Machine
end

section
/-! PROOFS. The 16-bit loads and the stack (43_load16_stack R280 to R285): the code of each row, and
its meaning as a word written to a register, as two stores, as a push or as a pop. -/

namespace Sys2Proof

/-! ## The registers the selectors name -/

/-- No `rp` selector names AF (R153). -/
theorem Rp.reg_ne_af (r : Rp) : r.reg ≠ .af := by cases r <;> decide

theorem Rp.reg_ne_pc (r : Rp) : r.reg ≠ .pc := by cases r <;> decide

/-- No `rp2` selector names SP (R153). -/
theorem Rp2.reg_ne_sp (r : Rp2) : r.reg ≠ .sp := by cases r <;> decide

theorem Rp2.reg_ne_pc (r : Rp2) : r.reg ≠ .pc := by cases r <;> decide

theorem Rp2.reg_eq_af_iff (r : Rp2) : r.reg = .af ↔ r = .af := by cases r <;> decide

namespace Machine

/-! ## The rows -/

theorem coded_rowLdRp (r : Rp) (lo hi : Byte) :
    Coded (rowLdRp r (hi ++ lo)) [0x01 + 16 * r.number, lo, hi] := by
  cases r <;> exact coded_of_instrOf

theorem coded_rowPush (r : Rp2) : Coded (rowPush r) [0xC5 + 16 * r.number] := by
  cases r <;> exact coded_of_instrOf

theorem coded_rowPop (r : Rp2) : Coded (rowPop r) [0xC1 + 16 * r.number] := by
  cases r <;> exact coded_of_instrOf

/-! ## A popped word -/

/-- A popped word written to its pair and the end of the handler: a write to AF is masked (R285). -/
theorem set16_sp_set16_retired_popped (s : State) (r : Rp2) (x v : Word) :
    let t := ((s.set16 .sp x).set16 r.reg v).retired 1 3
    t.get16 r.reg = (if r = .af then v &&& 0xFFF0 else v) ∧
      KeepsWords [r.reg, .sp, .pc] s t ∧ SameControl s t ∧ Advanced 1 3 s t := by
  refine ⟨?_, fun q hq => ?_, ?_, ?_⟩
  · rw [retired_get16_of_ne_pc _ _ _ r.reg_ne_pc, set16_get16]
    simp only [r.reg_eq_af_iff]
  · simp only [List.mem_cons, List.not_mem_nil, or_false, not_or] at hq
    obtain ⟨hreg, hsp, hpc⟩ := hq
    rw [retired_get16_of_ne_pc _ _ _ hpc, set16_get16_other _ _ hreg, set16_get16_other _ _ hsp]
  · exact ((set16_sameControl s .sp x).trans (set16_sameControl _ r.reg v)).trans
      (retired_onlyRegs 1 3 _).control
  · exact advanced_retired (set16_pc_of_ne _ v r.reg_ne_pc) 1 3

/-! ## The obligations -/

/-- Settles O19: the register is neither AF, whose write is masked, nor PC. -/
theorem loadWord : Obligations.LoadWord := by
  unfold Obligations.LoadWord
  refine ⟨fun r lo hi => ⟨coded_rowLdRp r lo hi, fun s => ?_⟩, coded_of_instrOf, fun s => ?_⟩
  · exact runs_of_exec (exec_rowLdRp s r _) (set16_retired_loaded s r.reg_ne_af r.reg_ne_pc _ 3 3)
  · have hexec : exec .ld_sp_hl s = .next ((s.set16 .sp (s.get16 .hl)).retired 1 2) := rfl
    exact runs_of_exec hexec (set16_retired_loaded s (by decide) (by decide) _ 1 2)

/-- Settles O20: two stores at neighbouring addresses, of which the first cannot disable the
second, and the end of the handler. -/
theorem storeStackPointer : Obligations.StoreStackPointer := by
  unfold Obligations.StoreStackPointer
  refine ⟨fun lo hi => coded_of_instrOf, fun s a => ?_⟩
  have hexec : exec (.ld_ma16_sp a) s =
      storeByte a (loByte s.sp) s fun u =>
        storeByte (a + 1) (hiByte s.sp) u fun t => .next (t.retired 3 5) := rfl
  refine twoStores_of_exec hexec (by bv_omega) fun t hstored hwords hcontrol => ?_
  obtain ⟨hregs, hsp, hcontrol', hmemory⟩ := retired_onlyRegs 3 5 t
  exact ⟨hstored.trans_sameMemory hmemory, (hwords.keepsRegs (by simp)).trans hregs,
    hsp.trans (hwords .sp (by simp)), hcontrol.trans hcontrol',
    advanced_retired (hwords .pc (by simp)) 3 5⟩

/-- Settles O21: a push of the pair and the end of the handler. -/
theorem pushPair : Obligations.PushPair := by
  unfold Obligations.PushPair
  refine fun r => ⟨coded_rowPush r, fun s => ?_⟩
  exact pushForm_of_exec (exec_rowPush s r) (retired_onlyRegs 1 4)
    fun u hpc => advanced_retired hpc 1 4

/-- Settles O22: a pop, a write of the pair, which is not SP, and the end of the handler. -/
theorem popPair : Obligations.PopPair := by
  unfold Obligations.PopPair
  refine fun r => ⟨coded_rowPop r, fun s => ?_⟩
  exact popForm_of_exec (exec_rowPop s r) (fun v u => set16_sp_of_ne u v r.reg_ne_sp)
    (fun v u => (set16_sameMemory u r.reg v).trans (retired_onlyRegs 1 3 _).memory)
    (set16_sp_set16_retired_popped s r _)

end Machine

end Sys2Proof
end

section
/-! PROOFS. The forms of the instructions that write F: a flag byte written with a result in A or
alone, an ALU operation on its operand forms (AluForms), and a read-modify-write on its own
(RmwForms). -/

namespace Sys2Proof.Machine

/-! ## The flag byte -/

/-- A flag byte has no low nibble to drop (R44). -/
theorem flagByte_and_mask (z n h c : Bool) : flagByte z n h c &&& 0xF0#8 = flagByte z n h c := by
  revert z n h c
  decide

theorem flagsAre_set8_f (s : State) (z n h c : Bool) :
    FlagsAre z n h c (s.set8 .f (flagByte z n h c)) := by
  rw [FlagsAre, set8_get8, if_pos rfl]
  exact flagByte_and_mask z n h c

theorem flagsAre_retired_iff (len : Word) (cyc : Nat) (s : State) (z n h c : Bool) :
    FlagsAre z n h c (s.retired len cyc) ↔ FlagsAre z n h c s := by
  rw [FlagsAre, retired_get8, FlagsAre]

/-! ## Flags written alone, and with a result in A -/

/-- F written and the end of the handler. -/
theorem set8_f_retired (s : State) (z n h c : Bool) (len : Word) (cyc : Nat) :
    let t := (s.set8 .f (flagByte z n h c)).retired len cyc
    FlagsAre z n h c t ∧ OnlyRegs [.f] s t ∧ Advanced len cyc s t :=
  ⟨(flagsAre_retired_iff ..).2 (flagsAre_set8_f s z n h c),
    (set8_onlyRegs s .f _).retired len cyc, advanced_retired (set8_pc s .f _) len cyc⟩

/-- A and F written and the end of the handler. -/
theorem setAccFlags_retired (s : State) (r : Byte) (z n h c : Bool) (len : Word) (cyc : Nat) :
    let t := (s.setAccFlags r (flagByte z n h c)).retired len cyc
    t.get8 .a = r ∧ FlagsAre z n h c t ∧ OnlyRegs [.a, .f] s t ∧ Advanced len cyc s t := by
  refine ⟨?_, (flagsAre_retired_iff ..).2 (flagsAre_set8_f _ z n h c), ?_, ?_⟩
  · rw [retired_get8, State.setAccFlags, set8_get8_other _ _ (by decide), set8_get8,
      if_neg (by decide)]
  · exact ((set8_onlyRegs s .a r).trans (set8_onlyRegs _ .f _)).retired len cyc
  · exact advanced_retired (setAccFlags_pc s r _) len cyc

/-- An instruction that writes A and F from a pair computed before it (R312, R313). -/
theorem runs_of_accFlags {i : Instr} {s : State} {rf : Byte × Byte} {r : Byte} {z n h c : Bool}
    {cyc : Nat} (hexec : exec i s = accFlags rf cyc s) (hrf : rf = (r, flagByte z n h c)) :
    Runs i s fun t => t.get8 .a = r ∧ FlagsAre z n h c t ∧ OnlyRegs [.a, .f] s t ∧
      Advanced 1 cyc s t := by
  subst hrf
  exact runs_of_exec hexec (setAccFlags_retired s r z n h c 1 cyc)

/-! ## The forms of an ALU operation -/

theorem aluWritten_pc (op : AluOp) (v : Byte) (s : State) : (s.aluWritten op v).pc = s.pc := by
  cases op
  case cp => exact set8_pc s .f _
  all_goals exact setAccFlags_pc s _ _

/-- What an ALU operation leaves after it wrote is what all its forms leave (R300 to R307). -/
theorem aluForms_of_aluWritten {op : AluOp} {s : State} {post : Byte → State → Prop}
    (hpost : ∀ v len cyc, post v ((s.aluWritten op v).retired len cyc)) : AluForms op s post := by
  have hall : ∀ v len cyc, post v ((s.aluWritten op v).retired len cyc) ∧
      Advanced len cyc s ((s.aluWritten op v).retired len cyc) := fun v len cyc =>
    ⟨hpost v len cyc, advanced_retired (aluWritten_pc op v s) len cyc⟩
  refine ⟨fun r q hq => ?_, loadForm_of_exec (exec_rowAlu s op .mhl) fun v => hall v 1 2,
    fun n => runs_of_exec (exec_rowAluImm s op n) (hall n 2 2)⟩
  have hexec : exec (rowAlu op r) s = .next ((s.aluWritten op (s.get8 q)).retired 1 1) := by
    rw [exec_rowAlu, aluR8, readR8_of_reg hq, hq]
    rfl
  exact runs_of_exec hexec (hall _ 1 1)

theorem aluWritten_of_ne_cp {op : AluOp} (h : op ≠ .cp) (v : Byte) (s : State) :
    s.aluWritten op v =
      s.setAccFlags (alu8 op s.acc v s.flags).1 (alu8 op s.acc v s.flags).2 := by
  cases op
  case cp => exact absurd rfl h
  all_goals rfl

/-- An operation other than CP writes its result to A and its four flags to F. -/
theorem aluWritten_retired {op : AluOp} (hop : op ≠ .cp) {s : State} {v r : Byte} {z n h c : Bool}
    (halu : alu8 op s.acc v s.flags = (r, flagByte z n h c)) (len : Word) (cyc : Nat) :
    let t := (s.aluWritten op v).retired len cyc
    t.get8 .a = r ∧ FlagsAre z n h c t ∧ OnlyRegs [.a, .f] s t := by
  rw [aluWritten_of_ne_cp hop, halu]
  obtain ⟨hacc, hflags, honly, -⟩ := setAccFlags_retired s r z n h c len cyc
  exact ⟨hacc, hflags, honly⟩

/-- The forms of an operation that writes A, by its result and its flags (R300 to R303). -/
theorem aluForms_of_result {op : AluOp} (hop : op ≠ .cp) {s : State} {r : Byte → Byte}
    {z h c : Byte → Bool} {n : Bool}
    (halu : ∀ v, alu8 op s.acc v s.flags = (r v, flagByte (z v) n (h v) (c v))) :
    AluForms op s fun v t =>
      t.get8 .a = r v ∧ FlagsAre (z v) n (h v) (c v) t ∧ OnlyRegs [.a, .f] s t :=
  aluForms_of_aluWritten fun v => aluWritten_retired hop (halu v)

/-- The forms of an operation that works bit by bit, with N and C reset (R230). -/
theorem aluForms_of_bitwise {op : AluOp} (hop : op ≠ .cp) {s : State} {r : Byte → Byte}
    {h : Bool} {f : Bool → Bool → Bool}
    (halu : ∀ v, alu8 op s.acc v s.flags = (r v, flagByte (isZero (r v)) false h false))
    (hbits : ∀ v j, (r v).getLsbD j = f (s.acc.getLsbD j) (v.getLsbD j)) :
    AluForms op s fun v t =>
      (∀ j, j < 8 → (t.get8 .a).getLsbD j = f ((s.get8 .a).getLsbD j) (v.getLsbD j)) ∧
      FlagsAre (decide (t.get8 .a = 0)) false h false t ∧ OnlyRegs [.a, .f] s t := by
  refine aluForms_of_aluWritten fun v len cyc => ?_
  obtain ⟨hacc, hflags, honly⟩ := aluWritten_retired hop (halu v) len cyc
  rw [hacc]
  exact ⟨fun j _ => hbits v j, hflags, honly⟩

/-! ## The forms of a read-modify-write -/

/-- An instruction that reads an r8 operand, writes `new` of it back and then changes at most F
(`after`), on its register forms and on the byte at HL (R364). -/
theorem rmwForms_of_exec {row : R8 → Instr} {len : Word} {cycReg cycMem : Nat} {s : State}
    {regs : List Reg8} {new : Byte → Byte} {flags : Byte → State → Prop}
    {after : Byte → State → State}
    (hexec : ∀ r, exec (row r) s = readR8 r s fun v => writeR8 r (new v) s fun t =>
      .next ((after v t).retired len (if r.reg = none then cycMem else cycReg)))
    (hregs : ∀ q ∈ regs, q = .f) (honly : ∀ v t, OnlyRegs regs t (after v t))
    (hpc : ∀ v t, (after v t).pc = t.pc)
    (hflags : ∀ v t cyc, flags v ((after v t).retired len cyc)) :
    RmwForms row len cycReg cycMem s regs new flags := by
  refine ⟨fun r q hq => ?_, fun v hv => ?_, fun hnone => ?_⟩
  · have hrun := hexec r
    simp only [readR8_of_reg hq, writeR8_of_reg hq, hq, reduceCtorEq, if_false] at hrun
    have hkept : q ∉ regs := fun hmem => reg_ne_f hq (hregs q hmem)
    refine runs_of_exec hrun ⟨?_, hflags _ _ _,
      ((set8_onlyRegs s q _).trans (honly _ _)).retired len cycReg,
      advanced_retired ((hpc _ _).trans (set8_pc s q _)) len cycReg⟩
    rw [retired_get8, (honly _ _).regs q hkept, set8_get8, if_neg (reg_ne_f hq)]
  · have hstore := (hexec .mhl).trans (readByte_of_some hv)
    exact storeForm_of_exec hstore (fun u => (honly v u).retired len cycMem) fun u hu =>
      ⟨hflags v u cycMem,
        advanced_retired ((hpc v u).trans (busWrite_get16 hu .pc)) len cycMem⟩
  · exact (hexec .mhl).trans (readByte_of_none hnone)

end Sys2Proof.Machine
end

section
/-! PROOFS. The 8-bit arithmetic and logic (44_alu8 R300 to R315): each function of the Flag Engine
as its result and its four flags on exact integers, and the obligations from them. -/

namespace Sys2Proof.Machine

/-! ## Results on exact integers -/

theorem isZero_ofInt (i : Int) : isZero (BitVec.ofInt 8 i) = decide (i % 256 = 0) := by
  rw [isZero, decide_eq_decide, ← BitVec.toNat_inj, BitVec.toNat_ofInt]
  show (i % 256).toNat = 0 ↔ i % 256 = 0
  omega

theorem isZero_ofNat (n : Nat) : isZero (BitVec.ofNat 8 n) = decide (n % 256 = 0) := by
  rw [isZero, decide_eq_decide, ← BitVec.toNat_inj, BitVec.toNat_ofNat]
  rfl

theorem add_add_ofNat (a b : Byte) (c : Nat) :
    a + b + BitVec.ofNat 8 c = BitVec.ofNat 8 (a.toNat + b.toNat + c) := by
  simp [BitVec.ofNat_add]

theorem ofInt_toNat (a : Byte) : BitVec.ofInt 8 a.toNat = a := by
  rw [BitVec.ofInt_natCast, BitVec.ofNat_toNat, BitVec.setWidth_eq]

theorem ofInt_sub (i j : Int) :
    BitVec.ofInt 8 (i - j) = BitVec.ofInt 8 i - BitVec.ofInt 8 j := by
  rw [Int.sub_eq_add_neg, BitVec.ofInt_add, BitVec.ofInt_neg, BitVec.sub_eq_add_neg]

theorem sub_sub_ofNat (a b : Byte) (c : Nat) :
    a - b - BitVec.ofNat 8 c = BitVec.ofInt 8 ((a.toNat : Int) - b.toNat - c) := by
  rw [ofInt_sub, ofInt_sub, ofInt_toNat, ofInt_toNat, BitVec.ofInt_natCast]

/-- `alu_add8` on the exact sum (R224). -/
theorem aluAdd8_eq (a b : Byte) (cin : Bool) :
    aluAdd8 a b cin = (BitVec.ofNat 8 (a.toNat + b.toNat + cin.toNat),
      flagByte (decide ((a.toNat + b.toNat + cin.toNat) % 256 = 0)) false
        (decide (a.toNat % 16 + b.toNat % 16 + cin.toNat > 0xF))
        (decide (a.toNat + b.toNat + cin.toNat > 0xFF))) := by
  simp only [aluAdd8, add_add_ofNat, isZero_ofNat]

/-- `alu_sub8` on the exact difference (R225). -/
theorem aluSub8_eq (a b : Byte) (cin : Bool) :
    aluSub8 a b cin = (BitVec.ofInt 8 ((a.toNat : Int) - b.toNat - cin.toNat),
      flagByte (decide (((a.toNat : Int) - b.toNat - cin.toNat) % 256 = 0)) true
        (decide (a.toNat % 16 < b.toNat % 16 + cin.toNat))
        (decide (a.toNat < b.toNat + cin.toNat))) := by
  simp only [aluSub8, sub_sub_ofNat, isZero_ofInt]

/-- `alu_inc8` on the exact sum (R226). -/
theorem aluInc8_eq (v f : Byte) :
    aluInc8 v f = (BitVec.ofNat 8 (v.toNat + 1),
      flagByte (decide (v.toNat = 0xFF)) false (decide (v.toNat % 16 = 0xF)) (flagC f)) := by
  have hresult : v + 1 = BitVec.ofNat 8 (v.toNat + 1) := by bv_omega
  have hzero : (v.toNat + 1) % 256 = 0 ↔ v.toNat = 0xFF := by omega
  simp only [aluInc8, hresult, isZero_ofNat, hzero]

/-- `alu_dec8` on the exact sum with 255, which is -1 modulo 2^8 (R227). -/
theorem aluDec8_eq (v f : Byte) :
    aluDec8 v f = (BitVec.ofNat 8 (v.toNat + 255),
      flagByte (decide (v.toNat = 1)) true (decide (v.toNat % 16 = 0)) (flagC f)) := by
  have hresult : v - 1 = BitVec.ofNat 8 (v.toNat + 255) := by bv_omega
  have hzero : (v.toNat + 255) % 256 = 0 ↔ v.toNat = 1 := by omega
  simp only [aluDec8, hresult, isZero_ofNat, hzero]

/-- The adjustment by whole bytes is the exact one, truncated (R234). -/
theorem daaAdjusted_eq (a f : Byte) :
    let r := daaExact a (flagN f) (flagH f) (flagC f)
    daaAdjusted a f = (BitVec.ofInt 8 r.1, r.2) := by
  unfold daaAdjusted daaExact
  cases flagN f
  · simp only [if_true, if_false, reduceCtorEq, BitVec.ofInt_add, ofInt_toNat,
      apply_ite (BitVec.ofInt 8), Bool.or_eq_true, decide_eq_true_eq]
    rfl
  · simp only [if_true, if_false, reduceCtorEq, ofInt_sub, ofInt_toNat,
      apply_ite (BitVec.ofInt 8)]
    rfl

/-- `alu_daa` is the algorithm on exact integers, with Z zero of the truncated result (R234). -/
theorem aluDaa_eq (a f : Byte) :
    let r := daaExact a (flagN f) (flagH f) (flagC f)
    aluDaa a f = (BitVec.ofInt 8 r.1, flagByte (decide (r.1 % 256 = 0)) (flagN f) false r.2) := by
  simp only [aluDaa, daaAdjusted_eq, isZero_ofInt]

/-- `alu_cpl` on exact integers (R235). -/
theorem aluCpl_eq (a f : Byte) :
    aluCpl a f = (BitVec.ofNat 8 (255 - a.toNat), flagByte (flagZ f) true true (flagC f)) := by
  have hresult : ~~~a = BitVec.ofNat 8 (255 - a.toNat) := by bv_omega
  rw [aluCpl, hresult]

/-! ## The rows -/

/-- The block x = 2, and the immediate column of the block x = 3 (R157). -/
theorem aluCoded (op : AluOp) : AluCoded op := by
  refine ⟨fun r => ?_, fun n => ?_⟩
  · cases op <;> cases r <;> exact coded_of_instrOf
  · cases op <;> exact coded_of_instrOf

theorem coded_rowInc (r : R8) : Coded (rowInc r) [0x04 + 8 * r.number] := by
  cases r <;> exact coded_of_instrOf

theorem coded_rowDec (r : R8) : Coded (rowDec r) [0x05 + 8 * r.number] := by
  cases r <;> exact coded_of_instrOf

/-! ## INC and DEC -/

/-- A step by one is a read-modify-write of the operand, then its four flags (R308 to R311). -/
theorem rmwForms_of_stepR8 {row : R8 → Instr} {g : Byte → Byte → Byte × Byte} {s : State}
    {new : Byte → Byte} {z h : Byte → Bool} {n c : Bool}
    (hexec : ∀ r, exec (row r) s = stepR8 g r (if r.reg = none then 3 else 1) s)
    (hg : ∀ v, g v s.flags = (new v, flagByte (z v) n (h v) c)) :
    RmwForms row 1 1 3 s [.f] new fun v => FlagsAre (z v) n (h v) c := by
  refine rmwForms_of_exec (after := fun v t => t.set8 .f (flagByte (z v) n (h v) c))
    (fun r => ?_) (by simp) (fun v t => set8_onlyRegs t .f _) (fun v t => set8_pc t .f _)
    fun v t cyc => (flagsAre_retired_iff ..).2 (flagsAre_set8_f t _ _ _ _)
  rw [hexec, stepR8]
  simp only [hg]
  rfl

/-! ## The obligations -/

/-- Settles O23: both operations write the exact sum, ADC with the carry in. -/
theorem addAndAddWithCarry : Obligations.AddAndAddWithCarry := by
  unfold Obligations.AddAndAddWithCarry
  exact ⟨aluCoded .add, aluCoded .adc, fun s =>
    ⟨aluForms_of_result (by decide) fun v => aluAdd8_eq s.acc v false,
      aluForms_of_result (by decide) fun v => aluAdd8_eq s.acc v (flagC s.flags)⟩⟩

/-- Settles O24: the three operations compute the exact difference, SBC with the borrow in, and CP
writes only its flags. -/
theorem subtractAndCompare : Obligations.SubtractAndCompare := by
  unfold Obligations.SubtractAndCompare
  refine ⟨aluCoded .sub, aluCoded .sbc, aluCoded .cp, fun s =>
    ⟨aluForms_of_result (by decide) fun v => aluSub8_eq s.acc v false,
      aluForms_of_result (by decide) fun v => aluSub8_eq s.acc v (flagC s.flags),
      aluForms_of_aluWritten fun v len cyc => ?_⟩⟩
  have hwritten : s.aluWritten .cp v = s.set8 .f (aluSub8 s.acc v false).2 := rfl
  rw [hwritten, aluSub8_eq]
  obtain ⟨hflags, honly, -⟩ := set8_f_retired s _ _ _ _ len cyc
  exact ⟨hflags, honly⟩

/-- Settles O25: the bits of a bitwise operation. -/
theorem logicOperations : Obligations.LogicOperations := by
  unfold Obligations.LogicOperations
  exact ⟨aluCoded .and, aluCoded .xor, aluCoded .or, fun s =>
    ⟨aluForms_of_bitwise (by decide) (fun _ => rfl) fun _ _ => BitVec.getLsbD_and,
      aluForms_of_bitwise (by decide) (fun _ => rfl) fun _ _ => BitVec.getLsbD_xor,
      aluForms_of_bitwise (by decide) (fun _ => rfl) fun _ _ => BitVec.getLsbD_or⟩⟩

/-- Settles O26: INC and DEC are the same form with their own result and flags. -/
theorem incrementAndDecrement : Obligations.IncrementAndDecrement := by
  unfold Obligations.IncrementAndDecrement
  exact ⟨fun r => ⟨coded_rowInc r, coded_rowDec r⟩, fun s =>
    ⟨rmwForms_of_stepR8 (exec_rowInc s) fun v => aluInc8_eq v s.flags,
      rmwForms_of_stepR8 (exec_rowDec s) fun v => aluDec8_eq v s.flags⟩⟩

/-- Settles O27: the Flag Engine's result is that of the exact algorithm. -/
theorem decimalAdjust : Obligations.DecimalAdjust := by
  unfold Obligations.DecimalAdjust
  exact ⟨coded_of_instrOf, fun s => runs_of_accFlags rfl (aluDaa_eq s.acc s.flags)⟩

/-- Settles O28: CPL writes A and F, SCF and CCF write F alone. -/
theorem complementAndCarry : Obligations.ComplementAndCarry := by
  unfold Obligations.ComplementAndCarry
  exact ⟨coded_of_instrOf, coded_of_instrOf, coded_of_instrOf, fun s =>
    ⟨runs_of_accFlags rfl (aluCpl_eq s.acc s.flags),
      runs_of_exec rfl (set8_f_retired s _ _ _ _ 1 1),
      runs_of_exec rfl (set8_f_retired s _ _ _ _ 1 1)⟩⟩

end Sys2Proof.Machine
end

section
/-! PROOFS. The 16-bit arithmetic (45_alu16 R340 to R344): the code of each row, and its meaning as
a word written to a register, with or without a flag byte after it. -/

namespace Sys2Proof.Machine

/-! ## The rows -/

theorem coded_rowAddHl (r : Rp) : Coded (rowAddHl r) [0x09 + 16 * r.number] := by
  cases r <;> exact coded_of_instrOf

theorem coded_rowIncRp (r : Rp) : Coded (rowIncRp r) [0x03 + 16 * r.number] := by
  cases r <;> exact coded_of_instrOf

theorem coded_rowDecRp (r : Rp) : Coded (rowDecRp r) [0x0B + 16 * r.number] := by
  cases r <;> exact coded_of_instrOf

/-! ## Results on exact integers -/

/-- Addition of words, as the sum of natural numbers modulo 2^16 (R203). -/
theorem add_eq_ofNat (a b : Word) : a + b = BitVec.ofNat 16 (a.toNat + b.toNat) := by
  rw [BitVec.ofNat_add, BitVec.ofNat_toNat, BitVec.ofNat_toNat, BitVec.setWidth_eq,
    BitVec.setWidth_eq]

/-- The sum with a displacement, on exact integers (R229). -/
theorem add_sext16 (w : Word) (e : Byte) : w + sext16 e = BitVec.ofInt 16 (w.toNat + e.toInt) :=
  add_ofInt w e.toInt

/-! ## A word and the flags written -/

/-- A write of F moves no pair but AF (R41). -/
theorem set8_f_get16 (s : State) (v : Byte) {r : Reg16} (h : r ≠ .af) :
    (s.set8 .f v).get16 r = s.get16 r :=
  (set8_onlyWords s .f v).words r (by simpa [Reg8.pair] using h)

/-- A word written to a register, then F, and the end of the handler. -/
theorem set16_set8_f_retired (s : State) {r : Reg16} (haf : r ≠ .af) (hpc : r ≠ .pc) (w : Word)
    (z n h c : Bool) (len : Word) (cyc : Nat) :
    let t := ((s.set16 r w).set8 .f (flagByte z n h c)).retired len cyc
    t.get16 r = w ∧ FlagsAre z n h c t ∧ OnlyRegs [.f] (s.set16 r w) t ∧ Advanced len cyc s t := by
  obtain ⟨hflags, honly, -⟩ := set8_f_retired (s.set16 r w) z n h c len cyc
  refine ⟨?_, hflags, honly, ?_⟩
  · rw [retired_get16_of_ne_pc _ _ _ hpc, set8_f_get16 _ _ haf, set16_get16, if_neg haf]
  · exact advanced_retired ((set8_pc _ .f _).trans (set16_pc_of_ne s w hpc)) len cyc

section Forms

variable {i : Instr} {s : State} {w len : Word} {z n h c : Bool} {cyc : Nat}

/-- An instruction that writes HL and F (R340, R344). -/
theorem runs_of_hlFlags
    (hexec : exec i s = .next (((s.set16 .hl w).set8 .f (flagByte z n h c)).retired len cyc)) :
    Runs i s fun t => t.get16 .hl = w ∧ FlagsAre z n h c t ∧ OnlyRegs [.h, .l, .f] s t ∧
      Advanced len cyc s t := by
  obtain ⟨hword, hflags, honly, hadvanced⟩ :=
    set16_set8_f_retired s (r := .hl) (by decide) (by decide) w z n h c len cyc
  exact runs_of_exec hexec ⟨hword, hflags, (set16_hl_onlyRegs s w).trans honly, hadvanced⟩

/-- An instruction that writes SP and F (R343). -/
theorem runs_of_spFlags
    (hexec : exec i s = .next (((s.set16 .sp w).set8 .f (flagByte z n h c)).retired len cyc)) :
    Runs i s fun t => t.sp = w ∧ FlagsAre z n h c t ∧ KeepsRegs [.f] s t ∧ SameControl s t ∧
      SameMemory s t ∧ Advanced len cyc s t := by
  obtain ⟨hword, hflags, ⟨hregs, -, hcontrol, hmemory⟩, hadvanced⟩ :=
    set16_set8_f_retired s (r := .sp) (by decide) (by decide) w z n h c len cyc
  exact runs_of_exec hexec ⟨hword, hflags, (set16_sp_keepsRegs s w).trans hregs,
    (set16_sameControl s .sp w).trans hcontrol, (set16_sameMemory s .sp w).trans hmemory,
    hadvanced⟩

/-- An instruction that moves a register by `d`, which is `k` modulo 2^16, and writes no flag: the
register is neither AF, whose write is masked, nor PC (R341, R342). -/
theorem runs_of_stepRp {r : Rp} {d : Word} {k : Nat} (hexec : exec i s = stepRp d r cyc s)
    (hd : d.toNat = k) :
    Runs i s fun t => t.get16 r.reg = BitVec.ofNat 16 ((s.get16 r.reg).toNat + k) ∧
      OnlyWords [r.reg, .pc] s t ∧ Advanced 1 cyc s t := by
  rw [← hd, ← add_eq_ofNat]
  exact runs_of_exec hexec (set16_retired_loaded s r.reg_ne_af r.reg_ne_pc _ 1 cyc)

end Forms

/-! ## The obligations -/

/-- Settles O29: HL and F are written, HL with the exact sum modulo 2^16. -/
theorem addToHl : Obligations.AddToHl := by
  unfold Obligations.AddToHl
  refine fun r => ⟨coded_rowAddHl r, fun s => ?_⟩
  simp only [← add_eq_ofNat]
  exact runs_of_hlFlags (exec_rowAddHl s r)

/-- Settles O30: the register moves by 1, or by 0xFFFF, which is -1 modulo 2^16. -/
theorem stepWordRegister : Obligations.StepWordRegister := by
  unfold Obligations.StepWordRegister
  exact fun r => ⟨coded_rowIncRp r, coded_rowDecRp r, fun s =>
    ⟨runs_of_stepRp (exec_rowIncRp s r) rfl, runs_of_stepRp (exec_rowDecRp s r) rfl⟩⟩

/-- Settles O31: the sum goes with its flags to SP or to HL. -/
theorem stackPointerPlusDisplacement : Obligations.StackPointerPlusDisplacement := by
  unfold Obligations.StackPointerPlusDisplacement
  refine fun e => ⟨coded_of_instrOf, coded_of_instrOf, fun s => ?_⟩
  rw [← add_sext16]
  exact ⟨runs_of_spFlags rfl, runs_of_hlFlags rfl⟩

end Sys2Proof.Machine
end

section
/-! PROOFS. The rotates, shifts and bit operations (46_rotate_shift_bit R360 to R375): the code of
each row, the rotate and shift table, and each meaning as a read-modify-write of its operand or as
a read of it. -/

namespace Sys2Proof.Machine

/-! ## The rows -/

/-- The secondary rows x = 0 (R158). -/
theorem coded_rowRot (op : RotOp) (r : R8) :
    Coded (rowRot op r) [0xCB, 8 * op.number + r.number] := by
  cases op <;> cases r <;> exact coded_of_instrOf

/-- The secondary rows x = 1 (R158). -/
theorem coded_rowBit (b : Fin 8) (r : R8) :
    Coded (rowBit b r) [0xCB, 0x40 + 8 * BitVec.ofNat 8 b.val + r.number] := by
  fin_cases b <;> cases r <;> exact coded_of_instrOf

/-- The secondary rows x = 2 (R158). -/
theorem coded_rowRes (b : Fin 8) (r : R8) :
    Coded (rowRes b r) [0xCB, 0x80 + 8 * BitVec.ofNat 8 b.val + r.number] := by
  fin_cases b <;> cases r <;> exact coded_of_instrOf

/-- The secondary rows x = 3 (R158). -/
theorem coded_rowSet (b : Fin 8) (r : R8) :
    Coded (rowSet b r) [0xCB, 0xC0 + 8 * BitVec.ofNat 8 b.val + r.number] := by
  fin_cases b <;> cases r <;> exact coded_of_instrOf

/-! ## The rotate and shift table -/

theorem shiftLeft_one_eq_add (v : Byte) : v <<< 1 = v + v := by bv_omega

theorem ushiftRight_one_eq_half (v : Byte) : v >>> 1 = BitVec.ofNat 8 (v.toNat / 2) := by
  bv_omega

/-- A carry as a byte has its bit at the low end (R232). -/
theorem getLsbD_carry (c : Bool) (i : Nat) :
    (BitVec.ofNat 8 c.toNat).getLsbD i = (decide (i = 0) && c) := by
  cases c <;> simp [BitVec.getLsbD_one]

/-- The carry enters at the low end (RL). -/
theorem shiftLeft_or_carry (v : Byte) (c : Bool) :
    v <<< 1 ||| BitVec.ofNat 8 c.toNat = (v ++ BitVec.ofBool c).extractLsb' 0 8 := by
  refine BitVec.eq_of_getLsbD_eq fun i hi => ?_
  rw [BitVec.getLsbD_or, BitVec.getLsbD_shiftLeft, getLsbD_carry, BitVec.getLsbD_extractLsb',
    BitVec.getLsbD_append, BitVec.getLsbD_ofBool]
  cases i <;> simp [hi]

/-- The carry enters at the high end (RR). -/
theorem ushiftRight_or_carry (v : Byte) (c : Bool) :
    v >>> 1 ||| BitVec.ofNat 8 c.toNat <<< 7 = (BitVec.ofBool c ++ v).extractLsb' 1 8 := by
  refine BitVec.eq_of_getLsbD_eq fun i hi => ?_
  rw [BitVec.getLsbD_or, BitVec.getLsbD_ushiftRight, BitVec.getLsbD_shiftLeft, getLsbD_carry,
    BitVec.getLsbD_extractLsb', BitVec.getLsbD_append, BitVec.getLsbD_ofBool]
  obtain hlow | rfl : i < 7 ∨ i = 7 := by omega
  · have hnext : 1 + i < 8 := by omega
    simp [hi, hlow, hnext]
  · simp

/-- The sign bit stays at the high end (SRA). -/
theorem ushiftRight_or_sign (v : Byte) : v >>> 1 ||| v &&& 0x80 = v.sshiftRight 1 := by
  have hsign : (0x80 : Byte) = BitVec.twoPow 8 7 := rfl
  refine BitVec.eq_of_getLsbD_eq fun i hi => ?_
  rw [hsign, BitVec.getLsbD_or, BitVec.getLsbD_ushiftRight, BitVec.getLsbD_and,
    BitVec.getLsbD_twoPow, BitVec.getLsbD_sshiftRight, BitVec.msb_eq_getLsbD_last]
  obtain hlow | rfl : i < 7 ∨ i = 7 := by omega
  · have hnext : 1 + i < 8 := by omega
    simp [hnext, hlow.ne', hi.not_ge]
  · simp

/-- The shifts and masks of the Flag Engine are the rotations and shifts of the table (R232). -/
theorem shiftResult_eq (op : RotOp) (v : Byte) (c : Bool) :
    shiftResult op v c = shiftTable op v c := by
  cases op
  case rlc => exact Prod.ext rfl rfl
  case rrc => exact Prod.ext rfl rfl
  case rl => exact Prod.ext (shiftLeft_or_carry v c) rfl
  case rr => exact Prod.ext (ushiftRight_or_carry v c) rfl
  case sla => exact Prod.ext (shiftLeft_one_eq_add v) rfl
  case sra => exact Prod.ext (ushiftRight_or_sign v) rfl
  case swap => exact Prod.ext rfl rfl
  case srl => exact Prod.ext (ushiftRight_one_eq_half v) rfl

/-- `alu_shift` on the table (R232). -/
theorem aluShift_eq (op : RotOp) (v f : Byte) :
    let r := shiftTable op v (flagC f)
    aluShift op v f = (r.1, flagByte (decide (r.1 = 0)) false false r.2) := by
  simp only [aluShift, shiftResult_eq, isZero]

/-- `alu_rot_a` on the table (R231). -/
theorem aluRotA_eq (op : RotOp) (a f : Byte) :
    let r := shiftTable op a (flagC f)
    aluRotA op a f = (r.1, flagByte false false false r.2) := by
  simp only [aluRotA, shiftResult_eq]

/-! ## The operand read and written back -/

theorem OnlyRegs.refl (s : State) : OnlyRegs [] s s where
  regs _ _ := rfl
  sp := rfl
  control := ⟨rfl, rfl, rfl, rfl, rfl, rfl⟩
  memory := ⟨fun _ => rfl, rfl, fun _ => rfl, fun _ => rfl, fun _ => rfl, rfl, rfl⟩

/-- A rotate or shift is a read-modify-write of the operand, then its four flags (R365 to R372). -/
theorem rmwForms_rowRot (op : RotOp) (s : State) :
    RmwForms (rowRot op) 2 2 4 s [.f] (fun v => (shiftTable op v (flagC s.flags)).1) fun v =>
      FlagsAre (decide ((shiftTable op v (flagC s.flags)).1 = 0)) false false
        (shiftTable op v (flagC s.flags)).2 := by
  refine rmwForms_of_exec (after := fun v t => t.set8 .f (aluShift op v s.flags).2)
    (fun r => ?_) (by simp) (fun v t => set8_onlyRegs t .f _) (fun v t => set8_pc t .f _)
    fun v t cyc => (flagsAre_retired_iff ..).2 ?_
  · rw [exec_rowRot, rotR8]
    simp only [aluShift_eq]
    rfl
  · rw [aluShift_eq]
    exact flagsAre_set8_f t _ _ _ _

/-- An instruction that writes `new` of its operand back and no flag (R374, R375). -/
theorem rmwForms_of_noFlags {row : R8 → Instr} {new : Byte → Byte} {s : State}
    (hexec : ∀ r, exec (row r) s =
      readR8 r s fun v => writeR8 r (new v) s (retire 2 (secondaryCycles r))) :
    RmwForms row 2 2 4 s [] new fun _ _ => True :=
  rmwForms_of_exec (after := fun _ t => t) hexec (by simp) (fun _ t => OnlyRegs.refl t)
    (fun _ _ => rfl) fun _ _ _ => trivial

/-! ## The obligations -/

/-- Settles O32: each writes A and F with what the table gives. -/
theorem accumulatorRotates : Obligations.AccumulatorRotates := by
  unfold Obligations.AccumulatorRotates
  exact ⟨coded_of_instrOf, coded_of_instrOf, coded_of_instrOf, coded_of_instrOf, fun s =>
    ⟨runs_of_accFlags rfl (aluRotA_eq .rlc s.acc s.flags),
      runs_of_accFlags rfl (aluRotA_eq .rrc s.acc s.flags),
      runs_of_accFlags rfl (aluRotA_eq .rl s.acc s.flags),
      runs_of_accFlags rfl (aluRotA_eq .rr s.acc s.flags)⟩⟩

/-- Settles O33: one form for the eight operations, with what the table gives. -/
theorem rotatesAndShifts : Obligations.RotatesAndShifts := by
  unfold Obligations.RotatesAndShifts
  exact fun op => ⟨coded_rowRot op, rmwForms_rowRot op⟩

/-- Settles O34: the operand is read, and F alone is written. -/
theorem testBit : Obligations.TestBit := by
  unfold Obligations.TestBit
  refine fun b => ⟨coded_rowBit b, fun s => ⟨fun r q hq => ?_, ?_⟩⟩
  · have hexec : exec (rowBit b r) s =
        .next ((s.set8 .f (aluBit b (s.get8 q) s.flags)).retired 2 2) := by
      rw [exec_rowBit, bitR8, readR8_of_reg hq, bitCycles, hq]
      rfl
    exact runs_of_exec hexec (set8_f_retired s _ _ _ _ 2 2)
  · exact loadForm_of_exec (exec_rowBit s b .mhl) fun v => set8_f_retired s _ _ _ _ 2 3

/-- Settles O35: the byte with the bit reset or set is written back, and no flag. -/
theorem resetAndSetBit : Obligations.ResetAndSetBit := by
  unfold Obligations.ResetAndSetBit
  exact fun b => ⟨coded_rowRes b, coded_rowSet b, fun s =>
    ⟨rmwForms_of_noFlags (exec_rowRes s b), rmwForms_of_noFlags (exec_rowSet s b)⟩⟩

end Sys2Proof.Machine
end

section
/-! PROOFS. The control transfers (47_control R390 to R400): the code of each row, and its meaning
as a jump, taken or not, as a push and a jump, or as a pop and a jump. -/

namespace Sys2Proof.Machine

/-! ## The rows -/

theorem coded_rowJp (cc : Cond) (lo hi : Byte) :
    Coded (rowJp cc (hi ++ lo)) [0xC2 + 8 * cc.number, lo, hi] := by
  cases cc <;> exact coded_of_instrOf

theorem coded_rowJr (cc : Cond) (e : Byte) : Coded (rowJr cc e) [0x20 + 8 * cc.number, e] := by
  cases cc <;> exact coded_of_instrOf

theorem coded_rowCall (cc : Cond) (lo hi : Byte) :
    Coded (rowCall cc (hi ++ lo)) [0xC4 + 8 * cc.number, lo, hi] := by
  cases cc <;> exact coded_of_instrOf

theorem coded_rowRet (cc : Cond) : Coded (rowRet cc) [0xC0 + 8 * cc.number] := by
  cases cc <;> exact coded_of_instrOf

theorem coded_rowRst (y : Fin 8) : Coded (rowRst y) [0xC7 + 8 * BitVec.ofNat 8 y.val] := by
  fin_cases y <;> exact coded_of_instrOf

/-! ## The condition and the target -/

/-- The model's condition test reads the flag bits of F that R201 names. -/
theorem holds_flags_iff_meets (cc : Cond) (s : State) :
    cc.holds s.flags = true ↔ s.Meets cc := by
  cases cc
  case nz => exact Iff.of_eq (Bool.not_eq_true' _)
  case z => exact Iff.rfl
  case nc => exact Iff.of_eq (Bool.not_eq_true' _)
  case c => exact Iff.rfl

/-- The target of a relative jump, on exact integers (R393). -/
theorem relativeTarget_eq (w : Word) (e : Byte) :
    w + 2 + sext16 e = BitVec.ofInt 16 (w.toNat + 2 + e.toInt) := by
  rw [BitVec.ofInt_add, ← add_ofInt w 2]
  rfl

/-! ## What is left unchanged -/

/-- The end of a handler at a target moves PC and the cycle output alone (R196, R197). -/
theorem jumped_onlyRegs (target : Word) (cyc : Nat) (s : State) :
    OnlyRegs [] s (s.jumped target cyc) where
  regs q _ := jumped_get8 target cyc s q
  sp := rfl
  control := ⟨rfl, rfl, rfl, rfl, rfl, rfl⟩
  memory := ⟨fun _ => rfl, rfl, fun _ => rfl, fun _ => rfl, fun _ => rfl, rfl, rfl⟩

@[simp] theorem interruptsOn_get8 (s : State) (q : Reg8) : s.interruptsOn.get8 q = s.get8 q := by
  cases q <;> rfl

/-- Setting IME and absorbing a pending EI stores nothing (R399). -/
theorem interruptsOn_sameMemory (s : State) : SameMemory s s.interruptsOn :=
  ⟨fun _ => rfl, rfl, fun _ => rfl, fun _ => rfl, fun _ => rfl, rfl, rfl⟩

theorem interruptsOn_set16_sp (s : State) (x : Word) :
    (s.set16 .sp x).interruptsOn = s.interruptsOn.set16 .sp x := rfl

/-- A return moves SP, PC and the cycle output alone (R397). -/
theorem set16_sp_jumped_returned (s : State) (x v : Word) (cyc : Nat) :
    let t := (s.set16 .sp x).jumped v cyc
    (t.pc = v ∧ t.cycles = cyc ∧ KeepsRegs [] s t) ∧ SameControl s t := by
  obtain ⟨hregs, -, hcontrol, -⟩ := jumped_onlyRegs v cyc (s.set16 .sp x)
  exact ⟨⟨rfl, rfl, (set16_sp_keepsRegs s x).trans hregs⟩,
    (set16_sameControl s .sp x).trans hcontrol⟩

/-! ## The forms of a transfer -/

section Forms

variable {i : Instr} {s : State} {a len : Word} {cyc : Nat} {cc : Cond} {o o' : Out} {P Q : Prop}

theorem runs_of_jumpTo (hexec : exec i s = jumpTo a cyc s) :
    Runs i s fun t => t.pc = a ∧ t.cycles = cyc ∧ OnlyRegs [] s t :=
  runs_of_exec hexec ⟨rfl, rfl, jumped_onlyRegs a cyc s⟩

theorem runs_of_retire (hexec : exec i s = retire len cyc s) :
    Runs i s fun t => Advanced len cyc s t ∧ OnlyRegs [] s t :=
  runs_of_exec hexec ⟨advanced_retired rfl len cyc, retired_onlyRegs len cyc s⟩

/-- A call is a push and then a jump to the target (R395, R400). -/
theorem pushForm_of_callTo (hexec : exec i s = callTo len a cyc s) :
    PushForm i (s.pc + len) s fun t => t.pc = a ∧ t.cycles = cyc :=
  pushForm_of_exec hexec (jumped_onlyRegs a cyc) fun _ _ => ⟨rfl, rfl⟩

/-- A return is a pop and then a jump to the popped word (R397). -/
theorem popForm_of_returnFrom (hexec : exec i s = returnFrom cyc s) :
    PopForm i s fun v t => (t.pc = v ∧ t.cycles = cyc ∧ KeepsRegs [] s t) ∧ SameControl s t :=
  popForm_of_exec hexec (fun _ _ => rfl) (fun v u => (jumped_onlyRegs v cyc u).memory)
    fun v => set16_sp_jumped_returned s _ v cyc

/-- What each branch of a condition test gives the instruction, it gives where the condition is met
and where it is not (R201). -/
theorem meets_of_exec_ite (hexec : exec i s = if cc.holds s.flags then o else o')
    (htaken : exec i s = o → P) (hskipped : exec i s = o' → Q) :
    (s.Meets cc → P) ∧ (¬s.Meets cc → Q) := by
  have hmeets := holds_flags_iff_meets cc s
  exact ⟨fun h => htaken (hexec.trans (if_pos (hmeets.2 h))),
    fun h => hskipped (hexec.trans (if_neg (mt hmeets.1 h)))⟩

end Forms

/-- RETI is a return in which IME is set and a pending EI is absorbed (R399). -/
theorem popForm_reti (s : State) :
    PopForm .reti s fun v t => (t.pc = v ∧ t.cycles = 4 ∧ KeepsRegs [] s t) ∧
      SameControl s.interruptsOn t := by
  have hexec : exec .reti s = pop16 s fun v u => .next (u.interruptsOn.jumped v 4) := rfl
  refine popForm_of_exec hexec (fun _ _ => rfl)
    (fun v u => (interruptsOn_sameMemory u).trans (jumped_onlyRegs v 4 _).memory) fun v => ?_
  have hreturned := set16_sp_jumped_returned s.interruptsOn (s.sp + 2) v 4
  simpa only [interruptsOn_set16_sp, KeepsRegs, interruptsOn_get8] using hreturned

/-! ## The obligations -/

/-- Settles O36: each is a jump to its target. -/
theorem jumps : Obligations.Jumps := by
  unfold Obligations.Jumps
  refine ⟨fun lo hi => coded_of_instrOf, coded_of_instrOf, fun e => coded_of_instrOf, fun s => ?_⟩
  simp only [← relativeTarget_eq]
  exact ⟨fun a => runs_of_jumpTo rfl, runs_of_jumpTo rfl, fun e => runs_of_jumpTo rfl⟩

/-- Settles O37: a jump where the condition is met, the end of the handler where it is not. -/
theorem conditionalJumps : Obligations.ConditionalJumps := by
  unfold Obligations.ConditionalJumps
  refine fun cc => ⟨coded_rowJp cc, coded_rowJr cc, fun s => ⟨fun a => ?_, fun e => ?_⟩⟩
  · exact meets_of_exec_ite (exec_rowJp s cc a) runs_of_jumpTo runs_of_retire
  · rw [← relativeTarget_eq]
    exact meets_of_exec_ite (exec_rowJr s cc e) runs_of_jumpTo runs_of_retire

/-- Settles O38: a push of the address after the instruction and a jump; a call not taken is the
end of the handler. -/
theorem calls : Obligations.Calls := by
  unfold Obligations.Calls
  refine ⟨fun lo hi => coded_of_instrOf, coded_rowCall, coded_rowRst, fun s =>
    ⟨fun a => pushForm_of_callTo rfl, fun cc a => ?_, fun y => ?_⟩⟩
  · exact meets_of_exec_ite (exec_rowCall s cc a) pushForm_of_callTo runs_of_retire
  · exact pushForm_of_callTo (exec_rowRst s y)

/-- Settles O39: a pop and a jump to the popped word; a return not taken is the end of the
handler. -/
theorem returns : Obligations.Returns := by
  unfold Obligations.Returns
  refine ⟨coded_of_instrOf, coded_rowRet, coded_of_instrOf, fun s =>
    ⟨popForm_of_returnFrom rfl, fun cc => ?_, popForm_reti s⟩⟩
  exact meets_of_exec_ite (exec_rowRet s cc) popForm_of_returnFrom runs_of_retire

end Sys2Proof.Machine
end

section
/-! PROOFS. The system instructions (48_system R420 to R426): the effects of NOP, DI, EI and HALT,
the delay of EI, the idle and the waking step, the opcodes that always fail, and PREFIX CB as
the secondary row of its second byte. -/

namespace Sys2Proof.Machine

/-! ## Steps that execute an opcode -/

/-- Operand fetches that succeed read as many bytes as the opcode has (R194). -/
theorem fetchOperands_next_operands {n : Nat} (hn : n ≤ 2) {s t : State} {k : Byte → Byte → Out}
    (h : fetchOperands n s k = .next t) :
    ∃ ops : List Byte, ops.length = n ∧ k (ops.getD 0 0) (ops.getD 1 0) = .next t := by
  match n, hn with
  | 0, _ => exact ⟨[], rfl, h⟩
  | 1, _ =>
    obtain ⟨b1, -, hk⟩ := readByte_next h
    exact ⟨[b1], rfl, hk⟩
  | 2, _ =>
    obtain ⟨b1, -, h1⟩ := readByte_next h
    obtain ⟨b2, -, hk⟩ := readByte_next h1
    exact ⟨[b1, b2], rfl, hk⟩

/-- A step that executes an instruction and answers a state ran the latched opcode with all its
operands, promoted an EI that was pending before and after it, and latched (R192). -/
theorem step_next_of_executes {s t : State} (hexec : s.Executes) (h : step s = .next t) :
    ∃ ops u b, ops.length = operandCount s.ir ∧ exec (instrOf s.ir ops) s.awake = .next u ∧
      t = { u with
        ir := b
        ime := u.ime || (s.eiPending && u.eiPending)
        eiPending := u.eiPending && !s.eiPending } := by
  rw [step_of_executes hexec] at h
  obtain ⟨ops, hlen, hfinish⟩ := fetchOperands_next_operands (operandCount_le_two _) h
  obtain ⟨u, b, hu, -, rfl⟩ := finish_next hfinish
  refine ⟨ops, u, b, hlen, hu, ?_⟩
  rw [promoted_eq]
  rfl

/-- An opcode without operands whose instruction fails fails the step that executes it (R199). -/
theorem stepFails_of_opcode {s : State} {o : Byte} {e : FatalError} (hexec : s.Executes)
    (hir : s.ir = o) (hcount : operandCount o = 0)
    (hfault : exec (instrOf o []) s.awake = raise e) : StepFails s e := by
  have hawake : s.awake.ir = o := hir
  have hstep : instructionStep exec s.awake =
      finish s.awake.eiPending (exec (instrOf o []) s.awake) := by
    rw [instructionStep, hawake, hcount]
    rfl
  rw [StepFails, step_of_executes hexec, hstep, hfault]
  rfl

/-! ## NOP, DI, EI and HALT -/

theorem exec_di (s : State) :
    exec .di s =
      .next { s with ime := false, eiPending := false, pc := s.pc + 1, cycles := 1 } := rfl

/-- EI sets EI_PENDING where IME is 0, and PC goes past it (R424). -/
theorem exec_ei (s : State) :
    exec .ei s = .next { s with
      eiPending := if s.ime = false then true else s.eiPending, pc := s.pc + 1, cycles := 1 } := by
  show retire 1 1 (if s.ime then s else { s with eiPending := true }) = _
  cases hime : s.ime <;> simp [retire, State.retired, hime]

/-- HALT fails where IME is 0 and a line is pending, and else sets HALTED (R421). -/
theorem exec_halt (s : State) :
    exec .halt s =
      if s.ime = false ∧ s.pend ≠ 0 then raise (.unimplementedOpcodeError 0x76 s.pc .haltBug)
      else .next { s with halted := true, pc := s.pc + 1, cycles := 1 } := rfl

/-- Settles O40: both are the end of the handler, DI after its two writes. -/
theorem nopAndDi : Obligations.NopAndDi := by
  unfold Obligations.NopAndDi
  exact ⟨coded_of_instrOf rfl rfl (by decide), coded_of_instrOf rfl rfl (by decide),
    fun s => ⟨rfl, exec_di s⟩⟩

/-! ## The delay of EI -/

/-- The only opcode of DI (R423). -/
theorem eq_of_instrOf_eq_di {o : Byte} {ops : List Byte} (hlen : ops.length = operandCount o)
    (h : instrOf o ops = .di) : o = 0xF3 := by
  have hstop : o ≠ stopByte := by
    rintro rfl
    cases h
  have hbytes := encode_instrOf hlen hstop
  rw [h] at hbytes
  exact (List.cons.inj hbytes).1.symm

/-- Every instruction but DI leaves a pending EI pending or sets IME itself, as RETI does. -/
theorem exec_keeps_pending_or_sets_ime {i : Instr} {s t : State} (hi : i ≠ .di)
    (hpending : s.eiPending = true) (h : exec i s = .next t) :
    t.ime = true ∨ t.eiPending = true := by
  cases hcontrol : isControlInstr i with
  | false =>
    obtain ⟨-, hkept, -⟩ := exec_control hcontrol h
    exact .inr (hkept.trans hpending)
  | true =>
    have hmem := of_decide_eq_true hcontrol
    simp only [List.mem_cons, List.not_mem_nil, or_false] at hmem
    obtain rfl | rfl | rfl | rfl := hmem
    · exact absurd rfl hi
    · obtain rfl := Host.Outcome.next.inj ((exec_ei s).symm.trans h)
      simp [hpending]
    · obtain ⟨_, _, -, -, hreturn⟩ :=
        pop16_next (k := fun v u => jumpTo v 4 u.interruptsOn) h
      cases hreturn
      exact .inl rfl
    · rw [exec_halt] at h
      split at h
      · exact absurd h raise_next
      · cases h
        exact .inr hpending

/-- Settles O41: EI by its meaning, and around the instruction a step executes, the promotion of
an EI that was pending before it and still is (R464). -/
theorem eiAndItsDelay : Obligations.EiAndItsDelay := by
  unfold Obligations.EiAndItsDelay
  refine ⟨coded_of_instrOf rfl rfl (by decide), exec_ei, fun s t hexec hstep => ?_⟩
  obtain ⟨ops, u, b, hlen, hu, rfl⟩ := step_next_of_executes hexec hstep
  have hei : s.ir = 0xFB → exec .ei s.awake = .next u := fun hir => by rwa [hir] at hu
  refine ⟨fun hpending hime hir => ?_, fun hpending hime hir => ?_, fun hpending hir => ?_,
    fun hpending hir => ?_⟩
  · obtain rfl := Host.Outcome.next.inj ((exec_ei s.awake).symm.trans (hei hir))
    simp [State.awake, hpending, hime]
  · obtain rfl := Host.Outcome.next.inj ((exec_ei s.awake).symm.trans (hei hir))
    simp [State.awake, hpending, hime]
  · rw [hir] at hu
    obtain rfl := Host.Outcome.next.inj ((exec_di s.awake).symm.trans hu)
    simp
  · have hdi : instrOf s.ir ops ≠ .di := fun h => hir (eq_of_instrOf_eq_di hlen h)
    have hset := exec_keeps_pending_or_sets_ime (s := s.awake) hdi hpending hu
    simpa [hpending] using hset

/-! ## The halted core and the wake -/

/-- `pend` in terms of the two bytes read through the bus (R460). -/
theorem pend_of_busRead {s : State} {e f : Byte} (he : s.busRead 0xFFFF = some e)
    (hf : s.busRead 0xFF0F = some f) : s.pend = e &&& f &&& 0x1F := by
  rw [busRead_ie] at he
  rw [busRead_if] at hf
  rw [State.pend, State.ie, State.iflag, Option.some.inj he, Option.some.inj hf]

/-- A halted core with nothing pending stays as the host's writes leave it (R467). -/
theorem step_idle {s : State} (herr : s.error = none) (hhalted : s.halted = true)
    (hpend : s.hostPhase.pend = 0) : step s = .next { s.hostPhase with cycles := 1 } := by
  rw [step, stepWith, herr]
  exact if_pos ⟨hhalted, hpend⟩

/-- Any other step of a core with no error is that of the woken core (R467). -/
theorem step_awake {s : State} (herr : s.error = none)
    (hidle : ¬(s.halted = true ∧ s.hostPhase.pend = 0)) : step s = awakeStep exec s.awake := by
  rw [step, stepWith, herr]
  exact if_neg hidle

/-- A pending line wakes a halted core in the same step, whatever IME is (R467). -/
theorem step_wake {s : State} (herr : s.error = none) (hpend : s.hostPhase.pend ≠ 0) :
    step s = step { s with halted := false } := by
  have hwoken : step { s with halted := false } = awakeStep exec s.awake :=
    step_awake herr fun ⟨hhalted, _⟩ => Bool.false_ne_true hhalted
  rw [hwoken, step_awake herr fun ⟨_, hnone⟩ => hpend hnone]

/-- Settles O42: HALT by its one condition, and the halted step by `pend` after the host's
writes. -/
theorem haltAndWake : Obligations.HaltAndWake := by
  unfold Obligations.HaltAndWake
  refine ⟨coded_of_instrOf rfl rfl (by decide), fun s e f he hf => ?_,
    fun s e f herr hhalted he hf => ?_⟩
  · rw [Fails, exec_halt, ← pend_of_busRead he hf]
    exact ⟨fun hgo => if_neg hgo, fun hime hpend => if_pos ⟨hime, hpend⟩⟩
  · rw [← pend_of_busRead he hf]
    exact ⟨step_idle herr hhalted, step_wake herr⟩

/-! ## STOP and the illegal bytes -/

/-- An opcode whose instruction always fails with IllegalOpcodeError: its one byte, and its failure
alone and in a step (R160, R425). -/
theorem illegal_opcode_fails {i : Instr} {o : Byte}
    (hi : instrOf o [] = i) (hcount : operandCount o = 0) (hstop : o ≠ stopByte)
    (hexec : ∀ s, Fails i s (.illegalOpcodeError o s.pc)) :
    encode i = [o] ∧ decode [o] = .ok (i, []) ∧
    ∀ s : State, Fails i s (.illegalOpcodeError o s.pc) ∧
      (s.Executes → s.ir = o → StepFails s (.illegalOpcodeError o s.pc)) := by
  subst hi
  exact ⟨encode_instrOf hcount.symm hstop, decode_operands (ops := []) [] hcount.symm hstop,
    fun s => ⟨hexec s, fun hexecutes hir =>
      stepFails_of_opcode hexecutes hir hcount (hexec s.awake)⟩⟩

/-- Settles O43: each of the twelve meanings raises its error, and none of the opcodes has an
operand to fetch before it. -/
theorem stopAndIllegalFail : Obligations.StopAndIllegalFail := by
  unfold Obligations.StopAndIllegalFail
  refine ⟨rfl, fun b => rfl, fun s => ⟨rfl, fun hexec hir => ?_⟩, fun x hx => ?_⟩
  · exact stepFails_of_opcode hexec hir rfl rfl
  · fin_cases hx <;> exact illegal_opcode_fails rfl rfl (by decide) fun s => rfl

/-! ## PREFIX CB -/

theorem exec_prefix_cb_of_some {s : State} {b : Byte} (h : s.busRead (s.pc + 1) = some b) :
    exec .prefix_cb s = exec (decodeCb b) s :=
  (readByte_of_some h).trans (exec_decodeCb s b).symm

/-- The secondary table has one instruction for each second byte (R158). -/
theorem eq_decodeCb_of_encode {i : Instr} {b : Byte} (h : encode i = [prefixByte, b]) :
    i = decodeCb b := by
  have hwf : i.wellFormed = true := decide_eq_true <| by
    rintro rfl
    cases h
  have hstop : i ≠ .stop := by
    rintro rfl
    cases h
  obtain ⟨o, ops, hbytes, -, rfl⟩ := exists_instrOf_eq hwf hstop
  cases hbytes.symm.trans h
  rfl

/-- The eight selectors of field z: `(HL)` alone names no register (R152). -/
theorem reg_ofField_eq_none_iff (z : Nat) : (R8.ofField z).reg = none ↔ z = 6 := by
  unfold R8.ofField
  split <;> simp_all [R8.reg]

theorem eq_mhl_of_reg {r : R8} (h : r.reg = none) : r = .mhl := by
  cases r
  case mhl => rfl
  all_goals cases h

/-- An operand that can be read and written back: a register, or the byte at HL where it is mapped
and has a legal write (R195). -/
def State.Reaches (s : State) (r : R8) : Prop :=
  r.reg = none → s.busRead s.hl ≠ none ∧ s.Writable s.hl

section Completes

variable {s : State} {r : R8} (hr : s.Reaches r)
include hr

/-- A read-modify-write of an operand that can be read and written back completes (R364). -/
theorem runs_of_rmwForms {row : R8 → Instr} {regs : List Reg8} {new : Byte → Byte}
    {flags : Byte → State → Prop} (h : RmwForms row 2 2 4 s regs new flags) :
    Runs (row r) s (Advanced 2 (secondaryCycles r) s) := by
  obtain ⟨hreg, hmem, -⟩ := h
  cases hq : r.reg with
  | some q =>
    obtain ⟨t, ht, -, -, -, hadv⟩ := hreg r q hq
    rw [secondaryCycles, hq]
    exact ⟨t, ht, hadv⟩
  | none =>
    obtain rfl := eq_mhl_of_reg hq
    obtain ⟨hread, hwrite⟩ := hr hq
    obtain ⟨v, hv⟩ := Option.ne_none_iff_exists'.1 hread
    obtain ⟨hstore, -⟩ := hmem v hv
    obtain ⟨t, ht, -, -, -, -, -, hadv⟩ := hstore hwrite
    exact ⟨t, ht, hadv⟩

/-- BIT of an operand that can be read completes (R373). -/
theorem runs_rowBit (n : Fin 8) : Runs (rowBit n r) s (Advanced 2 (bitCycles r) s) := by
  obtain ⟨hreg, hmem, -⟩ := (testBit n).2 s
  cases hq : r.reg with
  | some q =>
    obtain ⟨t, ht, -, -, hadv⟩ := hreg r q hq
    rw [bitCycles, hq]
    exact ⟨t, ht, hadv⟩
  | none =>
    obtain rfl := eq_mhl_of_reg hq
    obtain ⟨v, hv⟩ := Option.ne_none_iff_exists'.1 (hr hq).1
    obtain ⟨t, ht, -, -, hadv⟩ := hmem v hv
    exact ⟨t, ht, hadv⟩

end Completes

/-- Every row of the secondary table completes on an operand that can be read and written back, in
the row's count of M-cycles (R159). -/
theorem runs_decodeCb {s : State} {b : Byte} (hr : s.Reaches (R8.ofField (fieldZ b))) :
    Runs (decodeCb b) s (Advanced 2
      (if fieldX b = 1 then bitCycles (R8.ofField (fieldZ b))
        else secondaryCycles (R8.ofField (fieldZ b))) s) := by
  unfold decodeCb
  generalize fieldX b = x
  match x with
  | 0 => exact runs_of_rmwForms hr (rmwForms_rowRot _ s)
  | 1 => exact runs_rowBit hr _
  | 2 => exact runs_of_rmwForms hr (rmwForms_of_noFlags (exec_rowRes s _))
  | _ + 3 => exact runs_of_rmwForms hr (rmwForms_of_noFlags (exec_rowSet s _))

/-- The M-cycles of a secondary row by the fields of its byte (R159). -/
theorem secondary_cycles_eq (b : Byte) :
    (if fieldX b = 1 then bitCycles (R8.ofField (fieldZ b))
      else secondaryCycles (R8.ofField (fieldZ b))) =
    if b.toNat % 8 ≠ 6 then 2 else if b.toNat / 64 = 1 then 3 else 4 := by
  simp only [bitCycles, secondaryCycles, reg_ofField_eq_none_iff, fieldX, fieldZ, ite_not]
  split_ifs <;> rfl

/-- Settles O44: PREFIX CB runs the one row its second byte is read as, and each row completes. -/
theorem prefixRunsSecondary : Obligations.PrefixRunsSecondary := by
  unfold Obligations.PrefixRunsSecondary
  refine ⟨fun b => ⟨decodeCb b, coded_of_instrOf rfl rfl (by decide), rfl⟩, fun s =>
    ⟨readByte_of_none, fun b hb => ?_⟩⟩
  have hexec := exec_prefix_cb_of_some hb
  refine ⟨fun i hi => ?_, fun hop => ?_⟩
  · rw [hexec, eq_decodeCb_of_encode hi]
  · have hr : s.Reaches (R8.ofField (fieldZ b)) := fun hnone =>
      hop.resolve_left (not_not.2 ((reg_ofField_eq_none_iff _).1 hnone))
    obtain ⟨t, ht, hadv⟩ := runs_decodeCb hr
    rw [← secondary_cycles_eq]
    exact ⟨t, hexec.trans ht, hadv⟩

end Sys2Proof.Machine
end

section
/-! PROOFS. The interrupts (60_exceptions): the pending lines, who writes IME, EI_PENDING and
HALTED in a step, the interrupt invariant, and the dispatch with its push and its acknowledge. -/

namespace Sys2Proof.Machine

/-! ## Who writes the control state -/

/-- What an instruction does to IME, EI_PENDING and HALTED: DI, EI, RETI and HALT each write their
own of the three, and every other instruction none (R465). -/
theorem exec_control_cases {i : Instr} {s t : State} (h : exec i s = .next t) :
    (t.ime = s.ime ∧ t.eiPending = s.eiPending ∧ t.halted = s.halted) ∨
    (i = .di ∧ t.ime = false ∧ t.eiPending = false ∧ t.halted = s.halted) ∨
    (i = .ei ∧ t.ime = s.ime ∧ t.eiPending = (s.eiPending || !s.ime) ∧ t.halted = s.halted) ∨
    (i = .reti ∧ t.ime = true ∧ t.eiPending = false ∧ t.halted = s.halted) ∨
    (i = .halt ∧ t.ime = s.ime ∧ t.eiPending = s.eiPending ∧ t.halted = true) := by
  cases hcontrol : isControlInstr i with
  | false => exact .inl (exec_control hcontrol h)
  | true =>
    have hmem := of_decide_eq_true hcontrol
    simp only [List.mem_cons, List.not_mem_nil, or_false] at hmem
    obtain rfl | rfl | rfl | rfl := hmem
    · obtain rfl := Host.Outcome.next.inj ((exec_di s).symm.trans h)
      exact .inr (.inl ⟨rfl, rfl, rfl, rfl⟩)
    · obtain rfl := Host.Outcome.next.inj ((exec_ei s).symm.trans h)
      refine .inr (.inr (.inl ⟨rfl, rfl, ?_, rfl⟩))
      cases hime : s.ime <;> simp
    · obtain ⟨_, _, -, -, hreturn⟩ := pop16_next (k := fun v u => jumpTo v 4 u.interruptsOn) h
      cases hreturn
      exact .inr (.inr (.inr (.inl ⟨rfl, rfl, rfl, rfl⟩)))
    · rw [exec_halt] at h
      split at h
      · exact absurd h raise_next
      · cases h
        exact .inr (.inr (.inr (.inr ⟨rfl, rfl, rfl, rfl⟩)))

/-- A dispatch clears IME and leaves EI_PENDING and HALTED (R462). -/
theorem dispatch_control {s t : State} (h : dispatch s = .next t) :
    t.ime = false ∧ t.eiPending = s.eiPending ∧ t.halted = s.halted := by
  obtain ⟨-, -, u, w, b, hu, hw, -, rfl⟩ := dispatch_next h
  obtain ⟨-, hfirst, -⟩ := busWrite_frame hu
  obtain ⟨-, hsecond, -⟩ := busWrite_frame hw
  have hboth := hfirst.trans hsecond
  exact ⟨rfl, hboth.eiPending, hboth.halted⟩

/-- A step that answers a next state is idle, dispatches, or executes the latched opcode with its
operands and promotes an EI that was pending before and after the instruction (R192). -/
theorem step_control_cases {s t : State} (h : step s = .next t) :
    (t.ime = s.ime ∧ t.eiPending = s.eiPending ∧ t.halted = s.halted) ∨
    (s.Dispatches ∧ t.ime = false ∧ t.eiPending = s.eiPending ∧ t.halted = false) ∨
    (s.Executes ∧ ∃ ops u, ops.length = operandCount s.ir ∧
      exec (instrOf s.ir ops) s.awake = .next u ∧ t.ime = (u.promoted s.eiPending).ime ∧
      t.eiPending = (u.promoted s.eiPending).eiPending ∧
      t.halted = (u.promoted s.eiPending).halted) := by
  obtain ⟨herr, ⟨-, -, rfl⟩ | ⟨hime, hpend, hd⟩ | ⟨hwake, hnone, -⟩⟩ := step_cases h
  · exact .inl ⟨rfl, rfl, rfl⟩
  · exact .inr (.inl ⟨⟨herr, hime, hpend⟩, dispatch_control hd⟩)
  · have hexec : s.Executes := ⟨herr, hwake, hnone⟩
    obtain ⟨ops, u, b, hlen, hu, rfl⟩ := step_next_of_executes hexec h
    exact .inr (.inr ⟨hexec, ops, u, hlen, hu, (promoted_ime _ u).symm,
      (promoted_eiPending _ u).symm, (promoted_halted _ u).symm⟩)

/-- The interrupt invariant speaks of IME, EI_PENDING and HALTED alone. -/
theorem State.InterruptInv.congr {s t : State} (h : s.InterruptInv) (hime : t.ime = s.ime)
    (hei : t.eiPending = s.eiPending) (hh : t.halted = s.halted) : t.InterruptInv := by
  rw [State.InterruptInv, hime, hei, hh]
  exact h

/-- After an instruction the interrupt invariant holds whatever held before it: an EI still pending
at its end was set by the instruction itself, which is then EI under IME = 0 (R464, R469). -/
theorem exec_promoted_interruptInv {i : Instr} {s u : State} (hhalted : s.halted = false)
    (h : exec i s = .next u) : (u.promoted s.eiPending).InterruptInv := by
  unfold State.InterruptInv
  rw [promoted_ime, promoted_eiPending, promoted_halted]
  obtain ⟨hime, hei, hh⟩ | ⟨-, hime, hei, hh⟩ | ⟨-, hime, hei, hh⟩ | ⟨-, hime, hei, hh⟩ |
    ⟨-, hime, hei, hh⟩ := exec_control_cases h <;> rw [hime, hei, hh]
  · simp [hhalted]
  · simp
  · cases s.eiPending <;> simp [hhalted]
  · simp
  · simp

/-- Settles O54: an idle step changes none of the three fields, a dispatch clears IME and leaves the
core awake, and an instruction step ends with the promotion. -/
theorem interruptInvKept : Obligations.InterruptInvKept := by
  unfold Obligations.InterruptInvKept
  refine ⟨fun p c hc => (invariantsAtConstruction.2.2 p c hc).1, fun s t hs h => ?_⟩
  obtain ⟨hime, hei, hh⟩ | ⟨-, hime, -, hh⟩ | ⟨-, ops, u, -, hu, hime, hei, hh⟩ :=
    step_control_cases h
  · exact hs.congr hime hei hh
  · simp [State.InterruptInv, hime, hh]
  · exact (exec_promoted_interruptInv (s := s.awake) rfl hu).congr hime hei hh

/-- The opcode of an instruction, STOP apart, is the first byte of its encoding. -/
theorem head?_encode_of_instrOf {o : Byte} {ops : List Byte} {i : Instr}
    (hlen : ops.length = operandCount o) (h : instrOf o ops = i) (hi : i ≠ .stop) :
    (encode i).head? = some o := by
  have hstop : o ≠ stopByte := by
    rintro rfl
    exact hi h.symm
  rw [← h, encode_instrOf hlen hstop]
  rfl

/-- The only opcode of RETI (R399). -/
theorem eq_of_instrOf_eq_reti {o : Byte} {ops : List Byte} (hlen : ops.length = operandCount o)
    (h : instrOf o ops = .reti) : o = 0xD9 :=
  (Option.some.inj (head?_encode_of_instrOf hlen h (by decide))).symm

/-- What a promotion of IME changes, it sets, and for that an EI was pending before. -/
theorem or_and_eq_true_of_ne :
    ∀ x p q : Bool, (x || (p && q)) ≠ x → (x || (p && q)) = true ∧ p = true := by decide

/-- Settles O49: an idle step keeps IME, a dispatch clears it, and an instruction step writes it in
DI, in RETI or in the promotion. -/
theorem imeWriters : Obligations.ImeWriters := by
  unfold Obligations.ImeWriters
  intro s t h hne
  obtain ⟨hsame, -⟩ | ⟨hd, hime, -⟩ | ⟨hexec, ops, u, hlen, hu, hime, -⟩ := step_control_cases h
  · exact absurd hsame hne
  · exact .inl ⟨hime, .inl hd⟩
  · rw [hime, promoted_ime] at hne ⊢
    have hpromoted : u.ime = s.ime →
        (u.ime || (s.eiPending && u.eiPending)) = true ∧ s.eiPending = true := fun hkept =>
      or_and_eq_true_of_ne _ _ _ (hkept ▸ hne)
    obtain ⟨hkept, -⟩ | ⟨hi, hoff, hei, -⟩ | ⟨-, hkept, -⟩ | ⟨hi, hon, -⟩ | ⟨-, hkept, -⟩ :=
      exec_control_cases hu
    · exact .inr ⟨(hpromoted hkept).1, hexec, .inr (hpromoted hkept).2⟩
    · exact .inl ⟨by simp [hoff, hei], .inr ⟨hexec, eq_of_instrOf_eq_di hlen hi⟩⟩
    · exact .inr ⟨(hpromoted hkept).1, hexec, .inr (hpromoted hkept).2⟩
    · exact .inr ⟨by simp [hon], hexec, .inl (eq_of_instrOf_eq_reti hlen hi)⟩
    · exact .inr ⟨(hpromoted hkept).1, hexec, .inr (hpromoted hkept).2⟩

/-! ## The pending lines -/

theorem getLsbD_low_five (j : Nat) : (0x1F#8).getLsbD j = decide (j < 5) := by
  rw [BitVec.getLsbD_ofNat, show 0x1F = 2 ^ 5 - 1 from rfl, Nat.testBit_two_pow_sub_one,
    ← Bool.decide_and]
  exact decide_eq_decide.2 (by omega)

theorem getLsbD_pend (s : State) (j : Nat) :
    s.pend.getLsbD j = (decide (j < 5) && s.ie.getLsbD j && s.iflag.getLsbD j) := by
  calc s.pend.getLsbD j
      = (s.ie.getLsbD j && s.iflag.getLsbD j && (0x1F#8).getLsbD j) := by
        rw [State.pend, BitVec.getLsbD_and, BitVec.getLsbD_and]
        rfl
    _ = (decide (j < 5) && s.ie.getLsbD j && s.iflag.getLsbD j) := by
        rw [getLsbD_low_five, Bool.and_comm, Bool.and_assoc]

/-- Settles O46: both addresses are plain storage, and the mask is the five low bits. -/
theorem pendingLines : Obligations.PendingLines := by
  unfold Obligations.PendingLines
  exact fun s => ⟨s.ie, s.iflag, busRead_ie s, busRead_if s, getLsbD_pend s⟩

/-- The line a dispatch takes is the lowest set bit (R463). -/
theorem lowestLine_eq {p : Byte} {i : Nat} (hlt : i < 5) (hi : p.getLsbD i = true)
    (hbelow : ∀ j, j < i → p.getLsbD j = false) : lowestLine p = i := by
  have hunset : ∀ j, j < i → ¬p.getLsbD j = true := fun j hj => by simp [hbelow j hj]
  unfold lowestLine
  interval_cases i
  · rw [if_pos hi]
  · rw [if_neg (hunset 0 (by decide)), if_pos hi]
  · rw [if_neg (hunset 0 (by decide)), if_neg (hunset 1 (by decide)), if_pos hi]
  · rw [if_neg (hunset 0 (by decide)), if_neg (hunset 1 (by decide)),
      if_neg (hunset 2 (by decide)), if_pos hi]
  · rw [if_neg (hunset 0 (by decide)), if_neg (hunset 1 (by decide)),
      if_neg (hunset 2 (by decide)), if_neg (hunset 3 (by decide))]

/-! ## The dispatch -/

/-- A step that dispatches is the dispatch of the woken core (R461). -/
theorem step_of_dispatches {s : State} (h : s.Dispatches) : step s = dispatch s.awake := by
  obtain ⟨herr, hime, hpend⟩ := h
  rw [step_awake herr fun ⟨_, hnone⟩ => hpend hnone]
  exact if_pos ⟨hime, hpend⟩

/-- Off the two values of SP at which it would write IE, a dispatch is a push of PC, the acknowledge
and the latch (R462, R470). -/
theorem dispatch_of_sp {s : State} (h0 : s.sp ≠ 0) (h1 : s.sp ≠ 1) :
    dispatch s = push16 s.pc s fun t => latch (t.acknowledged (lowestLine s.pend)) := by
  rw [dispatch, if_neg (not_or.2 ⟨h0, h1⟩)]

/-- A push goes on from two stores and SP moved down by two, or the first of its writes that has no
legal target decides the fault (R202, R94). -/
theorem push16_cases (v : Word) (s : State) (k : State → Out) :
    (s.Writable (s.sp - 1) → s.Writable (s.sp - 2) → ∃ t, push16 v s k = k t ∧
      StoredTwo (s.sp - 1) (hiByte v) (s.sp - 2) (loByte v) s t ∧ t.sp = s.sp - 2 ∧
      KeepsRegs [] s t ∧ SameControl s t) ∧
    (¬s.Writable (s.sp - 1) →
      push16 v s k = .fault (.fatal (.unmappedAddressError (s.sp - 1) .write))) ∧
    (s.Writable (s.sp - 1) → ¬s.Writable (s.sp - 2) →
      push16 v s k = .fault (.fatal (.unmappedAddressError (s.sp - 2) .write))) := by
  obtain ⟨haccepted, hrefused⟩ := writeStoresOnce s (s.sp - 1) (hiByte v)
  have hwritable : ∀ {u}, s.busWrite (s.sp - 1) (hiByte v) = some u →
      (u.Writable (s.sp - 2) ↔ s.Writable (s.sp - 2)) :=
    fun hu => writable_iff_of_busWrite hu (by bv_omega)
  refine ⟨fun ha hb => ?_, fun ha => ?_, fun ha hb => ?_⟩
  · obtain ⟨u, hu, -⟩ := haccepted ha
    obtain ⟨w, hw, -⟩ := (writeStoresOnce u (s.sp - 2) (loByte v)).1 ((hwritable hu).2 hb)
    obtain ⟨hstored, hwords, hcontrol⟩ := busWrite_busWrite_frame hu hw
    exact ⟨_, push16_of_some hu hw, hstored.trans_sameMemory (set16_sameMemory w .sp _), rfl,
      (hwords.keepsRegs (by simp)).trans (set16_sp_keepsRegs w _),
      hcontrol.trans (set16_sameControl w .sp _)⟩
  · exact (push16_eq_stores v s k).trans (storeByte_of_none (hrefused ha))
  · obtain ⟨u, hu, -⟩ := haccepted ha
    have hnone := (writeStoresOnce u (s.sp - 2) (loByte v)).2 (mt (hwritable hu).1 hb)
    exact (push16_eq_stores v s k).trans
      ((storeByte_of_some hu).trans (storeByte_of_none hnone))

/-- The acknowledge of a line stores the byte of IF with the line's bit cleared, and nothing else
(R462). -/
theorem acknowledged_stored (i : Nat) (s : State) :
    Stored 0xFF0F (s.iflag &&& ~~~(1#8 <<< i)) s (s.acknowledged i) :=
  (stored_storage _ (by decide)).trans_sameMemory
    ⟨fun _ => rfl, rfl, fun _ => rfl, fun _ => rfl, fun _ => rfl, rfl, rfl⟩

@[simp] theorem acknowledged_get8 (i : Nat) (s : State) (q : Reg8) :
    (s.acknowledged i).get8 q = s.get8 q := by cases q <;> rfl

theorem toNat_vectorOf_lt (i : Fin 5) : (vectorOf i.val).toNat < 0x4000 := by
  revert i
  decide

/-- The latch changes IR alone (R198). -/
theorem withIr_onlyIr (s : State) (b : Byte) :
    SameMemory s { s with ir := b } ∧ KeepsRegs [] s { s with ir := b } :=
  ⟨⟨fun _ => rfl, rfl, fun _ => rfl, fun _ => rfl, fun _ => rfl, rfl, rfl⟩,
    fun q _ => by cases q <;> rfl⟩

/-- The vector of a line lies in the fixed ROM window, so the latch after an acknowledge always
completes (R458, R462). -/
theorem latch_acknowledged (i : Fin 5) (u : State) :
    ∃ b, (u.acknowledged i.val).busRead (vectorOf i.val) = some b ∧
      latch (u.acknowledged i.val) = .next { u.acknowledged i.val with ir := b } := by
  have hb := busRead_romFixed (u.acknowledged i.val) (toNat_vectorOf_lt i)
  exact ⟨_, hb, latch_of_some hb⟩

/-- Settles O47: the push of PC, the acknowledge of the lowest line, and the latch at its vector. -/
theorem interruptDispatch : Obligations.InterruptDispatch := by
  unfold Obligations.InterruptDispatch StepFails
  intro s i hd hi hbelow h0 h1
  rw [step_of_dispatches hd, dispatch_of_sp (s := s.awake) h0 h1, lowestLine_eq i.isLt hi hbelow]
  obtain ⟨hcompletes, hfirst, hsecond⟩ := push16_cases s.pc s.awake fun t =>
    latch (t.acknowledged i.val)
  refine ⟨fun ha hb => ?_, hfirst, hsecond⟩
  obtain ⟨u, hpush, hstored, hsp, hregs, hcontrol⟩ := hcompletes ha hb
  obtain ⟨b, hb, hlatch⟩ := latch_acknowledged i u
  obtain ⟨hmemory, hkeeps⟩ := withIr_onlyIr (u.acknowledged i.val) b
  exact ⟨_, u, u.iflag, hpush.trans hlatch, hstored, busRead_if u,
    (acknowledged_stored i.val u).trans_sameMemory hmemory, rfl, hb, hsp,
    fun q hq => (hkeeps q hq).trans ((acknowledged_get8 _ _ _).trans (hregs q hq)),
    rfl, hcontrol.halted, hcontrol.eiPending,
    fun hinv => hcontrol.eiPending.trans
      (Bool.eq_false_iff.2 fun hei => Bool.false_ne_true ((hinv.1 hei).symm.trans hd.ime)),
    hcontrol.error.trans hd.error, hcontrol.hostInput, rfl⟩

/-! ## A push to IE -/

theorem writable_of_isStorage (s : State) {a : Word} (h : (regionOf a).isStorage = true) :
    s.Writable a := by
  rw [← isSome_busWrite_iff s a 0, busWrite_storage s 0 h]
  rfl

/-- With SP 0 an ordinary push writes its high byte to IE and its low byte below it, both always
writable (R470). -/
theorem runs_of_pushForm_sp_zero {i : Instr} {v : Word} {s : State} {post : State → Prop}
    (hsp : s.sp = 0) (h : PushForm i v s post) :
    Runs i s fun t => t.busRead 0xFFFF = some (hiByte v) := by
  have hie : s.sp - 1 = 0xFFFF := by rw [hsp]; rfl
  have hbelow : s.sp - 2 = 0xFFFE := by rw [hsp]; rfl
  obtain ⟨hcompletes, -, -⟩ := h
  rw [hie, hbelow] at hcompletes
  obtain ⟨t, ht, ⟨u, hfirst, hsecond⟩, -⟩ := hcompletes
    (writable_of_isStorage s (by decide)) (writable_of_isStorage s (by decide))
  exact ⟨t, ht, (hsecond.outside (by decide) 0xFFFF (by decide)).trans (hfirst.reads (by decide))⟩

/-- Settles O48: a dispatch refuses the two values of SP before it pushes, and every ordinary push
is a PushForm. -/
theorem dispatchPushToIe : Obligations.DispatchPushToIe := by
  unfold Obligations.DispatchPushToIe
  refine ⟨fun s hd hsp => (step_of_dispatches hd).trans (if_pos hsp), fun s hsp => ?_⟩
  obtain ⟨-, -, -, hcalls⟩ := calls
  obtain ⟨hcall, hcond, hrst⟩ := hcalls s
  exact ⟨fun r => runs_of_pushForm_sp_zero hsp ((pushPair r).2 s),
    fun a => runs_of_pushForm_sp_zero hsp (hcall a),
    fun cc a hmeets => runs_of_pushForm_sp_zero hsp ((hcond cc a).1 hmeets),
    fun y => runs_of_pushForm_sp_zero hsp (hrst y)⟩

end Sys2Proof.Machine
end

section
/-! PROOFS. Construction and the end of a run (70_reset_and_hazards R501, R506): the stores a launch
gives, the power-on state, the reset state as a construction, and the halted core with no line
enabled. -/

namespace Sys2Proof.Machine

/-! ## The stores of a launch -/

/-- A store built from writes holds the last value written to a byte, or the unlisted one. -/
theorem Memory.read_ofCells (cells : List Host.Cell) (k : Nat) :
    (Memory.ofCells cells).read k =
      ((cells.reverse.find? fun c => c.1 == k).map Prod.snd).getD Config.unlisted := by
  induction cells using List.reverseRecOn with
  | nil => rfl
  | append_singleton cells c ih =>
    have hlast : Memory.ofCells (cells ++ [c]) = (Memory.ofCells cells).write c.1 c.2 := by
      simp only [Memory.ofCells, List.foldl_concat]
    rw [hlast, Memory.read_write, List.reverse_concat]
    by_cases hk : c.1 = k
    · rw [if_pos hk.symm, List.find?_cons_of_pos (by simpa using hk), Option.map_some,
        Option.getD_some]
    · rw [if_neg (Ne.symm hk), List.find?_cons_of_neg (by simpa using hk), ih]

/-- A byte the store may hold has the last value given for it: the pairs dropped are for other
bytes (log 15). -/
theorem Memory.read_ofCells_filter {cells : List Host.Cell} {p : Nat → Bool} {k : Nat} {v : Byte}
    (hk : p k = true) (hlast : (cells.reverse.find? fun c => c.1 == k) = some (k, v)) :
    (Memory.ofCells (cells.filter fun c => p c.1)).read k = v := by
  have hkept : ∀ c : Host.Cell, decide (p c.1 = true ∧ (c.1 == k) = true) = (c.1 == k) := by
    intro c
    by_cases hc : c.1 = k <;> simp [hc, hk]
  rw [Memory.read_ofCells, ← List.filter_reverse, List.find?_filter]
  simp only [hkept, hlast, Option.map_some, Option.getD_some]

/-! ## The power-on state -/

/-- The core a passed launch answers: the power-on state with the byte at 0x0100 latched (R61). -/
theorem construct_of_check_none {p : Launch} (h : p.check = none) :
    State.construct p = .ok { p.unlatched with ir := p.unlatched.rom.read 0x0100 } := by
  have hentry : p.unlatched.busRead Config.entryPoint = some (p.unlatched.rom.read 0x0100) :=
    busRead_romFixed p.unlatched (by decide)
  simp only [State.construct, h, hentry, Option.getD_some]

/-- The power-on AF is not changed by the mask of a read (R44, R59). -/
theorem reset_get16_af : State.reset.get16 .af = 0x01B0 := by decide

/-- Settles O1: the fields of the power-on state, and the stores read back. -/
theorem constructedCore : Obligations.ConstructedCore := by
  unfold Obligations.ConstructedCore
  intro p h
  have hcore := construct_of_check_none h
  exact ⟨_, hcore, reset_get16_af, rfl, rfl, rfl, rfl, rfl, busRead_romFixed _ (by decide),
    rfl, rfl, rfl, rfl, congrArg ControllerTag.powerOn, congrArg ControllerTag.powerOn,
    rfl, rfl, rfl, fun k v hv => construct_rom_read hcore hv,
    fun a v ha hlast => Memory.read_ofCells_filter ha hlast,
    fun i v hi hlast => Memory.read_ofCells_filter (p := fun j => decide (j < p.ramSize))
      (decide_eq_true hi) hlast⟩

/-- An image of zeros lists nothing. -/
theorem Memory.ofBytes_replicate_unlisted (n base : Nat) :
    Memory.ofBytes base (List.replicate n Config.unlisted) = [] := by
  induction n generalizing base with
  | zero => rfl
  | succ n ih => rw [List.replicate_succ, Memory.ofBytes, if_pos rfl, ih]

/-- The model's own cartridge (log 1, log 2, log 3). -/
def resetLaunch : Launch :=
  { controller := .mbc1, romBankCount := Config.resetRomBanks, ramSize := Config.resetRamSize,
    romImage := List.replicate 0x10000 Config.unlisted, initialMem := [], initialCartRam := [],
    hostInput := [] }

theorem check_resetLaunch : resetLaunch.check = none := by
  have hallows : resetLaunch.controller.Allows [2, 4, 8, 16, 32] [0, 0x800, 0x2000, 0x8000] :=
    .inr ⟨rfl, rfl, rfl⟩
  have hlen : resetLaunch.romImage.length = resetLaunch.romBankCount * Config.bankSize :=
    List.length_replicate
  rw [check_of_allows hallows, if_neg (not_not.2 (by decide)), if_neg (not_not.2 (by decide)),
    if_neg (not_not.2 hlen)]

theorem unlatched_resetLaunch : resetLaunch.unlatched = State.reset := by
  rw [Launch.unlatched, resetLaunch, Memory.ofBytes_replicate_unlisted]
  rfl

/-- Settles O3: the checks pass, and no store of the launch lists a byte. -/
theorem resetIsConstructed : Obligations.ResetIsConstructed := by
  unfold Obligations.ResetIsConstructed
  have hcore := construct_of_check_none check_resetLaunch
  rw [unlatched_resetLaunch] at hcore
  exact hcore

/-! ## The halted core with no line enabled -/

/-- The host cannot write IE (R114). -/
theorem hostPhase_ie (s : State) : s.hostPhase.ie = s.ie := by
  have hnone : ∀ ws : List HostWrite, (ws.find? fun w => w.address == 0xFFFF) = none := by
    intro ws
    refine List.find?_eq_none.2 fun w _ hw => ?_
    have haddress := hostWrite_address w
    rw [beq_iff_eq] at hw
    omega
  show (s.mem.hostWrites _).read 0xFFFF = _
  rw [Memory.read_hostWrites, hnone]
  rfl

/-- No line is pending where none is enabled (R460). -/
theorem pend_eq_zero {s : State} (h : s.ie &&& 0x1F = 0) : s.pend = 0 := by
  calc s.pend = (s.ie &&& 0x1F) &&& s.iflag := by
        rw [State.pend, BitVec.and_assoc, BitVec.and_comm s.iflag, BitVec.and_assoc]
    _ = 0 := by rw [h]; exact BitVec.zero_and

/-- The second kind of end marker (R506). -/
theorem endMarker_of_halted {s : State} (herr : s.error = none) (hhalted : s.halted = true)
    (hie : s.ie &&& 0x1F = 0) : s.endMarker = true := by
  rw [State.endMarker, herr, hhalted, hie]
  rfl

/-- Settles O57: its step is idle, which leaves HALTED, IE, PC and ERROR, and a run ends at an end
marker it starts from. -/
theorem haltedWithNoLineStays : Obligations.HaltedWithNoLineStays := by
  unfold Obligations.HaltedWithNoLineStays
  intro s herr hhalted hie
  have hmarker := endMarker_of_halted herr hhalted hie
  have hie' : s.hostPhase.ie &&& 0x1F = 0 := by rw [hostPhase_ie, hie]
  refine ⟨hmarker, ⟨_, step_idle herr hhalted (pend_eq_zero hie'), hhalted, hostPhase_ie s, rfl,
    herr, endMarker_of_halted herr hhalted hie'⟩, fun n => ?_⟩
  rw [run_of_endMarker hmarker]
  exact ⟨rfl, rfl, rfl⟩

end Sys2Proof.Machine
end
